-- ==== Sys2Proof/Word.lean ====
section
/-! DEFINITION. The word types of the Agrath AG432: octets, the 16-, 32- and 48-bit fields of its frames and records. -/

namespace Sys2Proof

/-- Eight bits: every frame length and offset of the manual is counted in octets (Terms, *octet*). -/
abbrev Octet := BitVec 8

/-- A 2-octet field (frame type, tag control information, tag, parameter index, 16-bit counters). -/
abbrev Word16 := BitVec 16

/-- A 4-octet field (frame check sequence, 32-bit counters). -/
abbrev Word32 := BitVec 32

/-- A 48-bit hardware address, the first octet on the wire most significant (R143, R165). -/
abbrev Mac := BitVec 48

end Sys2Proof
end

