-- ==== Sys2Proof/Syntax.lean ====
section
/-! DEFINITION. The commands of the AG432: one constructor of `Instr` for each row of spec/opcode_table.json, in the
table's order. A command is one whole, indivisible step (95_what_each_step_holds.md): something the part's ports, pins,
clocks or store do, or a management request taken by the responder. -/

namespace Sys2Proof

/-- The plant port P and the line port L (chapter 1). -/
inductive Port where
  | P | L
  deriving DecidableEq, Repr

/-- The port a forwarded frame is bound for: always the other one (chapter 1). -/
def Port.other : Port → Port
  | .P => .L
  | .L => .P

/-- Where the LINK report of one loss of link on port L falls among that loss's other consequences. R131 lets the report
come before or after the discards of R104 and gives both outcomes; R177 lets it meet a start in either order. The world
chooses (notes/assumptions/3.md). -/
inductive LinkOrder where
  /-- The LINK report is taken before the discards. -/
  | reportFirst
  /-- The discards are taken first, then the report, then any warm start that a lost RESTART reply begins. -/
  | discardsFirst
  /-- The report is taken last of all, after any warm start that a lost RESTART reply begins. -/
  | reportLast
  deriving DecidableEq, Repr

/-- One management request as the responder reads it (R158): the time it is taken, the arrival port, the VLAN tag control
information of a tagged frame, the source address (the requester), the request number, the argument length as given,
and every payload octet from offset 5 on (the arguments, then octets the responder ignores). The version and the
request kind are the command's own. -/
structure Request where
  time : Nat
  port : Port
  tci : Option Word16
  requester : Mac
  number : Octet
  argLength : Word16
  octets : List Octet
  deriving DecidableEq, Repr

/-- The commands. `time` is the present time in nanoseconds since the most recent cold start at which the command is
taken (notes/assumptions/1.md); the three commands that begin or end a life of that clock have none. -/
inductive Instr where
  /-- FRAME_ARRIVAL (R2): `port` finishes receiving `octets`, destination address to FCS. `whole` says that the port
  received all of it: it began on the wire after the port last came to receive frames (R1, R175 step 6), and no loss of link
  cut it off. -/
  | frameArrival (time : Nat) (port : Port) (whole : Bool) (octets : List Octet)
  /-- LINK_DOWN (R1): the PHY of `port` reports loss of link. -/
  | linkDown (time : Nat) (port : Port) (order : LinkOrder)
  /-- LINK_UP (R141): the PHY of `port` reports link established. -/
  | linkUp (time : Nat) (port : Port)
  /-- TRANSMISSION_COMPLETE (R138): the last FCS octet of the frame in transmission leaves `port`. -/
  | transmissionComplete (time : Nat) (port : Port)
  /-- TRANSACTION_DEADLINE (R103): the part's time reaches the deadline of the SENT transaction of `station` and `tag`. -/
  | transactionDeadline (time : Nat) (station : Fin 32) (tag : Word16)
  /-- KEY_CONTACT_CHANGE (R114): the contacts now show `keyA` and `keyB` (true: active). -/
  | keyContactChange (time : Nat) (keyA keyB : Bool)
  /-- KEY_CODE_TAKEN (R115): the candidate key code has been stable for 50 ms. -/
  | keyCodeTaken (time : Nat)
  /-- LSTOP_CHANGE (R116): the LSTOP input now shows `lstop` (true: active, the line is stopped). -/
  | lstopChange (time : Nat) (lstop : Bool)
  /-- LINE_STATE_TAKEN (R116): the candidate line state has been stable for 50 ms. -/
  | lineStateTaken (time : Nat)
  /-- WINDOW_DEADLINE (R123): the present time reaches the window deadline. -/
  | windowDeadline (time : Nat)
  /-- HOLD_OFF_DEADLINE (R128): the present time reaches the hold-off deadline. -/
  | holdOffDeadline (time : Nat)
  /-- TRIP_PULSE_END (R149): the present time reaches the pulse end. -/
  | tripPulseEnd (time : Nat)
  /-- SAVE_END (R173): the save's write and verify are complete; `verified` says every stored octet read back as written. -/
  | saveEnd (time : Nat) (verified : Bool)
  /-- RESET_ASSERTED (R175). -/
  | resetAsserted
  /-- COLD_START (R175): power-up, or the release of RESET. -/
  | coldStart
  /-- SETTINGS_LOAD_COMPLETE (R175, R176): a start's settings load ends. -/
  | settingsLoadComplete (time : Nat)
  /-- UNKNOWN_REQUEST (R160 step 1): a management request whose version or kind the directory does not hold. -/
  | unknownRequest (version kind : Octet) (q : Request)
  | readIdentity (q : Request)
  | readStatus (q : Request)
  | loadProfile (q : Request)
  | readProfile (q : Request)
  | loadStation (q : Request)
  | readStation (q : Request)
  | clearStation (q : Request)
  | loadAreaPolicy (q : Request)
  | readCounters (q : Request)
  | clearCounters (q : Request)
  | loadParameter (q : Request)
  | clearParameter (q : Request)
  | readParameter (q : Request)
  | copyActiveToStaged (q : Request)
  | markStagedReady (q : Request)
  | activateStaged (q : Request)
  | readImage (q : Request)
  | forgetImage (q : Request)
  | openWindow (q : Request)
  | extendWindow (q : Request)
  | closeWindow (q : Request)
  | grantService (q : Request)
  | endService (q : Request)
  | quarantineStation (q : Request)
  | releaseStation (q : Request)
  | takeEvent (q : Request)
  | forceEvent (q : Request)
  | setEventControl (q : Request)
  | lockTables (q : Request)
  | unlockTables (q : Request)
  | setManagers (q : Request)
  | setPortSettings (q : Request)
  | setWindowSettings (q : Request)
  | saveSettings (q : Request)
  | restart (q : Request)
  /-- POWER_LOSS (R177): the supply is lost. -/
  | powerLoss
  deriving DecidableEq, Repr

end Sys2Proof
end

