-- ==== Sys2Proof/Config.lean ====
section
/-! DEFINITION. The numbers the manual fixes once for the part: capacities, durations, limits and codes of its own.
The manual leaves no value of a step open, so this file declares no free value (notes/assumptions/20.md). -/

namespace Sys2Proof.Config

/-- Shortest frame a port accepts, FCS included (R2). -/
def minFrameLength : Nat := 64

/-- Longest frame a port accepts, FCS included (R2). -/
def maxFrameLength : Nat := 1522

/-- The VLAN tag's type field (R3). -/
def vlanType : Word16 := 0x8100#16

/-- The frame type of link flow control (R2). -/
def flowControlType : Word16 := 0x8808#16

/-- The lowest frame type a profile or the management type may have (R6, R168). -/
def lowestFrameType : Nat := 0x0600

/-- Largest sum of an offset and the width of its field (R7). -/
def maxFieldEnd : Nat := 1500

/-- Places of a port's express queue (R132). -/
def expressCapacity : Nat := 32

/-- Places of a port's ordinary queue (R132). -/
def ordinaryCapacity : Nat := 64

/-- Transactions the table holds at most (R94). -/
def maxTransactions : Nat := 64

/-- Events the queue holds at most (R147). -/
def maxEvents : Nat := 32

/-- A time of `n` ms, in the nanoseconds the model counts times in (notes/assumptions/1.md). -/
def ms (n : Nat) : Nat := 1000000 * n

/-- A time of `n` seconds. -/
def seconds (n : Nat) : Nat := ms (1000 * n)

/-- The whole ms of a time, as an event record carries it (R143). -/
def wholeMs (t : Nat) : Nat := t / ms 1

/-- A time rounded up to whole seconds (R129). -/
def secondsUp (t : Nat) : Nat := (t + (seconds 1 - 1)) / seconds 1

/-- Stability interval of the key and line-stop inputs (R114, R116). -/
def stability : Nat := ms 50

/-- Length of a TRIP pulse (R149). -/
def tripLength : Nat := ms 100

/-- One unit of a profile's reply timeout (R6, R97). -/
def timeoutUnit : Nat := ms 10

/-- Longest time a window stays OPEN, in seconds (R119, R121). -/
def maxWindowSeconds : Nat := 7200

/-- Longest hold-off, in seconds (R118). -/
def maxHoldOffSeconds : Nat := 600

/-- Highest alarm mask (R150, R154). -/
def maxAlarmMask : Nat := 6

/-- Least and greatest ordinary share (R137). -/
def minShare : Nat := 1
def maxShare : Nat := 16

/-- Default reply timeout of a profile (R6, R174). -/
def defaultReplyTimeout : Octet := 20#8

/-- Default hold-off, in seconds (R118, R174). -/
def defaultHoldOff : Nat := 30

/-- Default ordinary share (R137, R174). -/
def defaultShare : Nat := 4

/-- Default management type (R174). -/
def defaultManagementType : Word16 := 0x88B6#16

/-- The version octet of requests, replies and notices (R158, R179). -/
def protocolVersion : Octet := 1#8

/-- The kind of a notice (R179). -/
def noticeKind : Octet := 0xC0#8

/-- The part code, the five characters AG432 (R165). -/
def partCode : List Octet := [0x41#8, 0x47#8, 0x34#8, 0x33#8, 0x32#8]

/-- Least and greatest value of an event's value A and value B (R143, R178). -/
def eventValueMin : Int := -2147483648
def eventValueMax : Int := 281474976710655

/-- The CRC-32 polynomial of the Ethernet FCS, bit-reversed. PRESUMED from IEEE 802.3 (notes/assumptions/4.md). -/
def crcPolynomial : Word32 := 0xEDB88320#32

end Sys2Proof.Config
end

