-- ==== Sys2Proof/Machine/Records.lean ====
section
/-! DEFINITION. The records the part's blocks hold and the enumerations their fields take, as the chapters name them, and
the octet that stands for each enumerated value on the wire (Frame and Record Layouts, *Codes*). -/

namespace Sys2Proof.Machine

/-! ### Frames, classes and profiles (chapter 1) -/

inductive FrameClass where
  | cyclic | read | write | control | program | other
  deriving DecidableEq, Repr

inductive Role where
  | request | reply
  deriving DecidableEq, Repr

inductive ByteOrder where
  | big | little
  deriving DecidableEq, Repr

inductive ForeignPolicy where
  | pass | drop
  deriving DecidableEq, Repr

/-- One entry of a function map (R6). -/
structure MapEntry where
  code : Octet
  cls : FrameClass
  role : Role
  deriving DecidableEq, Repr

structure Discriminator where
  offset : Word16
  value : Octet
  deriving DecidableEq, Repr

structure TagField where
  offset : Word16
  width : Octet
  deriving DecidableEq, Repr

/-- A decode profile (R6). The numeric fields are as wide as LOAD PROFILE carries them, because a profile that is not in
use keeps its fields as given (R7). `byteOrder` is `none` where the record holds 0, no listed code: so only in the
default record, whose other fields are 0 (R174). -/
structure Profile where
  inUse : Bool
  frameType : Word16
  discriminator : Option Discriminator
  byteOrder : Option ByteOrder
  minLength : Word16
  maxLength : Word16
  stationField : Option Word16
  tagField : Option TagField
  functionOffset : Word16
  areaOffset : Word16
  indexOffset : Word16
  countOffset : Word16
  firstValueOffset : Word16
  valueWidth : Octet
  statusOffset : Word16
  successStatus : Octet
  replyTimeout : Octet
  rewritePermitted : Bool
  functionMap : List MapEntry
  deriving DecidableEq, Repr

/-! ### Stations (chapter 2) -/

inductive StationState where
  | normal | service | quarantined
  deriving DecidableEq, Repr

inductive IdMode where
  | address | embedded
  deriving DecidableEq, Repr

/-- The configuration of a station entry, written together by LOAD STATION (R21). `enters` is the event mask. -/
structure StationConfig where
  mode : IdMode
  address : Mac
  embedded : Octet
  profile : Fin 4
  member : Bool
  quarantineOnBreach : Bool
  enters : Bool
  deriving DecidableEq, Repr

inductive UnlistedVerdict where
  | pass | window | refuse
  deriving DecidableEq, Repr

inductive ReadVerdict where
  | pass | refuse
  deriving DecidableEq, Repr

/-- An area policy (R36). -/
structure AreaPolicy where
  unlisted : UnlistedVerdict
  read : ReadVerdict
  deriving DecidableEq, Repr

/-- The stored part of a station entry (R21, R171); its counters are `StationCounters`. -/
structure StationEntry where
  inUse : Bool
  config : StationConfig
  state : StationState
  policies : Vector AreaPolicy 16
  deriving DecidableEq, Repr

/-- The four 16-bit saturating counters of an entry (R37). -/
structure StationCounters where
  admitted : Word16
  clamped : Word16
  refused : Word16
  drift : Word16
  deriving DecidableEq, Repr

/-! ### Parameter records and banks (chapter 3) -/

inductive Kind where
  | s16 | u16 | s32 | u32
  deriving DecidableEq, Repr

inductive Policy where
  | clamp | refuse
  deriving DecidableEq, Repr

/-- The key of a record (R39). -/
structure Key where
  station : Fin 32
  area : Fin 16
  index : Word16
  deriving DecidableEq, Repr

/-- A parameter record (R38). -/
structure ParamRecord where
  key : Key
  kind : Kind
  runLo : Int
  runHi : Int
  chgLo : Int
  chgHi : Int
  stepLimits : Bool
  stepUp : Nat
  stepDown : Nat
  quantum : Nat
  policy : Policy
  criticality : Nat
  deriving DecidableEq, Repr

/-- The 512 slots of a recipe bank, each empty or holding one record (R40). -/
abbrev Bank := Vector (Option ParamRecord) 512

inductive BankId where
  | A | B
  deriving DecidableEq, Repr

def BankId.other : BankId → BankId
  | .A => .B
  | .B => .A

/-! ### Transactions and the value image (chapters 5 and 6) -/

inductive TxnMode where
  | run | change
  deriving DecidableEq, Repr

/-- What names a transaction: station entry and tag, of which the table never holds two alike (R94). -/
structure TxnRef where
  station : Fin 32
  tag : Word16
  deriving DecidableEq, Repr

/-- QUEUED, or SENT with its deadline (R95). -/
inductive TxnState where
  | queued
  | sent (deadline : Nat)
  deriving DecidableEq, Repr

/-- A write transaction (R95). -/
structure Txn where
  ref : TxnRef
  requester : Mac
  mode : TxnMode
  slots : List (Fin 512)
  state : TxnState
  deriving DecidableEq, Repr

inductive TxnOutcome where
  | success | failure | timeout | discard
  deriving DecidableEq, Repr

/-- An image slot (R78): UNKNOWN, KNOWN with its committed value, or PENDING. -/
inductive ImageSlot where
  | unknown
  | known (committed : Int)
  | pending (committed : Option Int) (value : Int) (txn : TxnRef)
  deriving DecidableEq, Repr

/-! ### Key switch, line and window (chapter 7) -/

inductive KeyCode where
  | run | changeover | service | fault
  deriving DecidableEq, Repr

inductive KeyPosition where
  | run | changeover | service
  deriving DecidableEq, Repr

inductive LineState where
  | stopped | running
  deriving DecidableEq, Repr

/-- The window state with the times present in it (R118). -/
inductive Window where
  | shut
  | opened (openTime deadline : Nat)
  | draining
  | holdOff (deadline : Nat)
  deriving DecidableEq, Repr

/-- The five close triggers (R124). -/
inductive Trigger where
  | lineStart | level7 | drift | timeout | link
  deriving DecidableEq, Repr

/-- A subset of the triggers (R118). -/
structure TriggerSet where
  lineStart : Bool
  level7 : Bool
  drift : Bool
  timeout : Bool
  link : Bool
  deriving DecidableEq, Repr

def TriggerSet.has (t : TriggerSet) : Trigger → Bool
  | .lineStart => t.lineStart
  | .level7 => t.level7
  | .drift => t.drift
  | .timeout => t.timeout
  | .link => t.link

/-- What closes a window (R125); `request` carries the requester's address, DRIFT and TIMEOUT the station reported. -/
inductive CloseCause where
  | request (source : Mac)
  | key
  | expiry
  | trigger (t : Trigger) (station : Option (Fin 32))
  deriving DecidableEq, Repr

/-! ### Events (chapter 9) and results (chapter 10) -/

inductive ResultCode where
  | ok | unknownRequest | badLength | badValue | notManager | keyPosition | locked | busy | wrongState | duplicate
  deriving DecidableEq, Repr

inductive EventKind where
  | writeRefused | writeClamped | readRefused | controlRefused | programRefused | stationUnknown | malformed
  | stationRejected | replyTimeout | drift | envelopeBreach | quarantined | windowOpened | windowClosed
  | changeoverIncomplete | keyFault | storeInvalid | saveFailed | managementRefused | forced
  deriving DecidableEq, Repr

/-- The reasons, causes, stages, modes, classes and positions an event carries (Frame and Record Layouts, *Codes*). -/
inductive Reason where
  | stationQuarantined | areaClosed | parameterBusy | malformed | outsideEnvelope | offGrid | stepExceeded
  | rewriteForbidden | noReference | outOfReach | tagInUse | tableFull | egressFull
  | length | truncated | area | count | indexRange
  | notInWindow | notInService | quarantined
  | writeInFlight | runEnvelope | changeoverEnvelope
  | request | breach | swap
  | key | expiry | lineStart | level7 | drift | timeout | link
  | mode (m : TxnMode)
  | frameClass (c : FrameClass)
  | position (p : KeyPosition)
  | result (r : ResultCode)
  deriving DecidableEq, Repr

/-- An event record (R143). `qualifier` is the altering stage that REWRITE-FORBIDDEN also carries (R74). -/
structure EventRecord where
  kind : EventKind
  natural : Nat
  effective : Nat
  rank : Nat
  forced : Bool
  station : Option (Fin 32)
  key : Option (Fin 16 × Word16)
  valueA : Option Int
  valueB : Option Int
  reason : Option Reason
  qualifier : Option Reason
  source : Option Mac
  time : Word32
  deriving DecidableEq, Repr

/-- What a raising block fills in (R143); the event unit adds the effective level, the rank and the time. -/
structure Raised where
  kind : EventKind
  natural : Nat
  forced : Bool := false
  station : Option (Fin 32) := none
  key : Option (Fin 16 × Word16) := none
  valueA : Option Int := none
  valueB : Option Int := none
  reason : Option Reason := none
  qualifier : Option Reason := none
  source : Option Mac := none
  deriving DecidableEq, Repr

/-! ### Egress queues (chapter 8) -/

inductive Origin where
  | forwarded | part
  deriving DecidableEq, Repr

inductive QueueKind where
  | express | ordinary
  deriving DecidableEq, Repr

/-- A queued frame (R132). `inTransmission` false is the state WAITING. -/
structure QueuedFrame where
  octets : List Octet
  origin : Origin
  txn : Option TxnRef
  restart : Bool
  inTransmission : Bool
  deriving DecidableEq, Repr

/-- The counters of R4 that are kept per port. -/
structure ArrivalCounters where
  fcsErrors : Word32
  lengthErrors : Word32
  strayManagement : Word32
  foreignDrops : Word32
  deriving DecidableEq, Repr

/-- The scheduler's five counters of a port (R135). -/
structure EgressCounters where
  expressFullDrops : Word32
  ordinaryFullDrops : Word32
  downDrops : Word32
  lostPartFrames : Word32
  framesSent : Word32
  deriving DecidableEq, Repr

/-- One port: its PHY's report and its link state (R1), its two queues and run count (R132, R137), its counters; and two
times by which the model knows what happens at one moment (notes/assumptions/25.md). -/
structure PortState where
  phyUp : Bool
  up : Bool
  /-- The model's own: the time at which the port last went DOWN while the part ran, until it is UP again or a start ends.
  What had arrived whole at that same moment is still taken (R93, R170). -/
  lostAt : Option Nat
  express : List QueuedFrame
  ordinary : List QueuedFrame
  runCount : Nat
  /-- The model's own: the time at which the express frame IN TRANSMISSION entered and was selected alone. An ordinary
  frame that enters at that same moment waited at its selection (R142). -/
  aloneAt : Option Nat
  arrival : ArrivalCounters
  egress : EgressCounters
  deriving DecidableEq, Repr

/-! ### The table lock and the identity (chapter 10) -/

inductive Lock where
  | unlocked | locked
  deriving DecidableEq, Repr

/-- The part's identity (R165); the part code is `Config.partCode`. -/
structure Identity where
  revision : Octet
  uniqueNumber : BitVec 64
  address : Mac
  deriving DecidableEq, Repr

/-! ### Codes (Frame and Record Layouts, *Codes*) -/

def FrameClass.code : FrameClass → Octet
  | .cyclic => 1 | .read => 2 | .write => 3 | .control => 4 | .program => 5 | .other => 6

def FrameClass.ofCode (o : Octet) : Option FrameClass :=
  match o.toNat with
  | 1 => some .cyclic | 2 => some .read | 3 => some .write | 4 => some .control | 5 => some .program | 6 => some .other
  | _ => none

def Role.code : Role → Octet
  | .request => 1 | .reply => 2

def Role.ofCode (o : Octet) : Option Role :=
  match o.toNat with
  | 1 => some .request | 2 => some .reply | _ => none

def ByteOrder.code : ByteOrder → Octet
  | .big => 1 | .little => 2

def ByteOrder.ofCode (o : Octet) : Option ByteOrder :=
  match o.toNat with
  | 1 => some .big | 2 => some .little | _ => none

def IdMode.code : IdMode → Octet
  | .address => 1 | .embedded => 2

def IdMode.ofCode (o : Octet) : Option IdMode :=
  match o.toNat with
  | 1 => some .address | 2 => some .embedded | _ => none

def StationState.code : StationState → Octet
  | .normal => 1 | .service => 2 | .quarantined => 3

def UnlistedVerdict.code : UnlistedVerdict → Octet
  | .pass => 1 | .window => 2 | .refuse => 3

def UnlistedVerdict.ofCode (o : Octet) : Option UnlistedVerdict :=
  match o.toNat with
  | 1 => some .pass | 2 => some .window | 3 => some .refuse | _ => none

def ReadVerdict.code : ReadVerdict → Octet
  | .pass => 1 | .refuse => 2

def ReadVerdict.ofCode (o : Octet) : Option ReadVerdict :=
  match o.toNat with
  | 1 => some .pass | 2 => some .refuse | _ => none

def Kind.code : Kind → Octet
  | .s16 => 1 | .u16 => 2 | .s32 => 3 | .u32 => 4

def Kind.ofCode (o : Octet) : Option Kind :=
  match o.toNat with
  | 1 => some .s16 | 2 => some .u16 | 3 => some .s32 | 4 => some .u32 | _ => none

def Policy.code : Policy → Octet
  | .clamp => 1 | .refuse => 2

def Policy.ofCode (o : Octet) : Option Policy :=
  match o.toNat with
  | 1 => some .clamp | 2 => some .refuse | _ => none

def BankId.code : BankId → Octet
  | .A => 1 | .B => 2

def BankId.ofCode (o : Octet) : Option BankId :=
  match o.toNat with
  | 1 => some .A | 2 => some .B | _ => none

def portCode : Port → Octet
  | .P => 1 | .L => 2

def portOfCode (o : Octet) : Option Port :=
  match o.toNat with
  | 1 => some .P | 2 => some .L | _ => none

def ForeignPolicy.code : ForeignPolicy → Octet
  | .pass => 1 | .drop => 2

def ForeignPolicy.ofCode (o : Octet) : Option ForeignPolicy :=
  match o.toNat with
  | 1 => some .pass | 2 => some .drop | _ => none

def KeyPosition.code : KeyPosition → Octet
  | .run => 1 | .changeover => 2 | .service => 3

def LineState.code : LineState → Octet
  | .running => 1 | .stopped => 2

def Window.code : Window → Octet
  | .shut => 1 | .opened _ _ => 2 | .draining => 3 | .holdOff _ => 4

def Lock.code : Lock → Octet
  | .unlocked => 1 | .locked => 2

def ImageSlot.code : ImageSlot → Octet
  | .unknown => 1 | .known _ => 2 | .pending _ _ _ => 3

def ResultCode.code : ResultCode → Octet
  | .ok => 0 | .unknownRequest => 1 | .badLength => 2 | .badValue => 3 | .notManager => 4 | .keyPosition => 5
  | .locked => 6 | .busy => 7 | .wrongState => 8 | .duplicate => 9

def EventKind.code : EventKind → Octet
  | .writeRefused => 0x01 | .writeClamped => 0x02 | .readRefused => 0x03 | .controlRefused => 0x04
  | .programRefused => 0x05 | .stationUnknown => 0x06 | .malformed => 0x07 | .stationRejected => 0x08
  | .replyTimeout => 0x09 | .drift => 0x0A | .envelopeBreach => 0x0B | .quarantined => 0x0C
  | .windowOpened => 0x0D | .windowClosed => 0x0E | .changeoverIncomplete => 0x0F | .keyFault => 0x10
  | .storeInvalid => 0x11 | .saveFailed => 0x12 | .managementRefused => 0x13 | .forced => 0x14

def EventKind.ofCode (o : Octet) : Option EventKind :=
  match o.toNat with
  | 0x01 => some .writeRefused | 0x02 => some .writeClamped | 0x03 => some .readRefused
  | 0x04 => some .controlRefused | 0x05 => some .programRefused | 0x06 => some .stationUnknown
  | 0x07 => some .malformed | 0x08 => some .stationRejected | 0x09 => some .replyTimeout | 0x0A => some .drift
  | 0x0B => some .envelopeBreach | 0x0C => some .quarantined | 0x0D => some .windowOpened
  | 0x0E => some .windowClosed | 0x0F => some .changeoverIncomplete | 0x10 => some .keyFault
  | 0x11 => some .storeInvalid | 0x12 => some .saveFailed | 0x13 => some .managementRefused | 0x14 => some .forced
  | _ => none

def TxnMode.code : TxnMode → Octet
  | .run => 0x61 | .change => 0x62

def Reason.code : Reason → Octet
  | .stationQuarantined => 0x01 | .areaClosed => 0x02 | .parameterBusy => 0x03 | .malformed => 0x04
  | .outsideEnvelope => 0x05 | .offGrid => 0x06 | .stepExceeded => 0x07 | .rewriteForbidden => 0x08
  | .noReference => 0x09 | .outOfReach => 0x0A | .tagInUse => 0x0B | .tableFull => 0x0C | .egressFull => 0x0D
  | .length => 0x11 | .truncated => 0x12 | .area => 0x13 | .count => 0x14 | .indexRange => 0x15
  | .notInWindow => 0x21 | .notInService => 0x22 | .quarantined => 0x23
  | .writeInFlight => 0x31 | .runEnvelope => 0x32 | .changeoverEnvelope => 0x33
  | .request => 0x41 | .breach => 0x42 | .swap => 0x43
  | .key => 0x51 | .expiry => 0x52 | .lineStart => 0x53 | .level7 => 0x54 | .drift => 0x55 | .timeout => 0x56
  | .link => 0x57
  | .mode m => m.code
  | .frameClass c => 0x70 + c.code
  | .position p => 0x80 + p.code
  | .result r => 0x90 + r.code

/-- The codes of a yes/no field (R178). -/
def boolCode (b : Bool) : Octet := if b then 1 else 0

def boolOfCode (o : Octet) : Option Bool :=
  match o.toNat with
  | 0 => some false | 1 => some true | _ => none

/-- The octet of each trigger in SET WINDOW SETTINGS. -/
def TriggerSet.code (t : TriggerSet) : Octet :=
  (if t.lineStart then 0x01 else 0) ||| (if t.level7 then 0x02 else 0) ||| (if t.drift then 0x04 else 0) |||
  (if t.timeout then 0x08 else 0) ||| (if t.link then 0x10 else 0)

/-- Any other bit set is refused (Frame and Record Layouts, *Request kinds*). -/
def TriggerSet.ofCode (o : Octet) : Option TriggerSet :=
  if o &&& 0xE0#8 = 0 then
    some ⟨o.getLsbD 0, o.getLsbD 1, o.getLsbD 2, o.getLsbD 3, o.getLsbD 4⟩
  else none

end Sys2Proof.Machine
end

