-- ==== Sys2Proof/Machine/Settings.lean ====
section
/-! DEFINITION. The working settings (the copy the part works from, chapter 11), the defaults of R174 and what the store
holds of the settings (R171). -/

namespace Sys2Proof.Machine

/-- The port settings of one port (R168): foreign policy and ordinary share. -/
structure PortSettings where
  foreign : ForeignPolicy
  share : Nat
  deriving DecidableEq, Repr

/-- Where notices are sent (R151). -/
structure NoticeDestination where
  address : Mac
  port : Port
  deriving DecidableEq, Repr

/-- Everything R171 lists as stored, as the part works from it. The station event masks are the `enters` fields of the
station configurations (R154). -/
structure Settings where
  profiles : Vector Profile 4
  stations : Vector StationEntry 32
  bankA : Bank
  bankB : Bank
  active : BankId
  stagedReady : Bool
  lock : Lock
  managers : Vector (Option Mac) 4
  alarmMask : Nat
  groupEnables : Vector Bool 4
  promotionA : Option EventKind
  promotionB : Option EventKind
  notice : Option NoticeDestination
  holdOff : Nat
  triggers : TriggerSet
  plant : PortSettings
  line : PortSettings
  managementType : Word16
  deriving DecidableEq, Repr

def Settings.bank (st : Settings) : BankId → Bank
  | .A => st.bankA
  | .B => st.bankB

/-- The bank vetting and learning read (R40). -/
def Settings.activeBank (st : Settings) : Bank := st.bank st.active

/-- The bank the staged-bank writes change (R40). -/
def Settings.stagedBank (st : Settings) : Bank := st.bank st.active.other

def Settings.setBank (st : Settings) (b : BankId) (bank : Bank) : Settings :=
  match b with
  | .A => { st with bankA := bank }
  | .B => { st with bankB := bank }

def Settings.port (st : Settings) : Port → PortSettings
  | .P => st.plant
  | .L => st.line

/-- The default profile (R174). -/
def defaultProfile : Profile where
  inUse := false
  frameType := 0
  discriminator := none
  byteOrder := none
  minLength := 0
  maxLength := 0
  stationField := none
  tagField := none
  functionOffset := 0
  areaOffset := 0
  indexOffset := 0
  countOffset := 0
  firstValueOffset := 0
  valueWidth := 0
  statusOffset := 0
  successStatus := 0
  replyTimeout := Config.defaultReplyTimeout
  rewritePermitted := false
  functionMap := []

/-- The default area policy (R36): REFUSE for unlisted writes, PASS for reads. -/
def defaultPolicy : AreaPolicy where
  unlisted := .refuse
  read := .pass

/-- The default station entry (R174). -/
def defaultStation : StationEntry where
  inUse := false
  config :=
    { mode := .address, address := 0, embedded := 0, profile := 0, member := false, quarantineOnBreach := false,
      enters := true }
  state := .normal
  policies := Vector.replicate 16 defaultPolicy

def emptyBank : Bank := Vector.replicate 512 none

/-- The default trigger set: LINE-START and LEVEL7 (R118). -/
def defaultTriggers : TriggerSet where
  lineStart := true
  level7 := true
  drift := false
  timeout := false
  link := false

def defaultPortSettings : PortSettings where
  foreign := .pass
  share := Config.defaultShare

/-- The defaults (R174). -/
def defaultSettings : Settings where
  profiles := Vector.replicate 4 defaultProfile
  stations := Vector.replicate 32 defaultStation
  bankA := emptyBank
  bankB := emptyBank
  active := .A
  stagedReady := false
  lock := .unlocked
  managers := Vector.replicate 4 none
  alarmMask := 0
  groupEnables := Vector.replicate 4 true
  promotionA := none
  promotionB := none
  notice := none
  holdOff := Config.defaultHoldOff
  triggers := defaultTriggers
  plant := defaultPortSettings
  line := defaultPortSettings
  managementType := Config.defaultManagementType

end Sys2Proof.Machine
end

