-- ==== Sys2Proof/Machine/State.lean ====
section
/-! DEFINITION. The state of the AG432: every block's registers, tables, queues, counters and pins (00_scope.md, *Block
overview*), the queue of waiting commands, and the state right after reset. Plain data throughout. -/

namespace Sys2Proof.Machine

/-- What the part as a whole is doing (R1, R175, R176, R177). -/
inductive Phase where
  /-- No supply (R177). -/
  | off
  /-- RESET is asserted (R175). -/
  | resetHeld
  /-- The settings load of a cold start (R175 steps 1 to 5). -/
  | loadingCold
  /-- The settings load of a warm start (R176 steps 1 to 5). -/
  | loadingWarm
  /-- The ports accept frames (step 6). -/
  | running
  deriving DecidableEq, Repr

/-- The non-volatile settings store (R171): the stored settings, the validity mark, and whether the integrity check value
agrees with the stored settings. -/
structure Store where
  mark : Bool
  checkAgrees : Bool
  contents : Settings
  deriving DecidableEq, Repr

/-- The store is valid (R171). -/
def Store.valid (st : Store) : Bool := st.mark && st.checkAgrees

/-- The save state (R172): SAVING holds the copy taken at acceptance. -/
inductive SaveState where
  | idle
  | saving (copy : Settings)
  | failed
  deriving DecidableEq, Repr

/-- A sampled input with a 50 ms stability interval (R114, R116): the taken value, and the candidate with the time at
which it appeared. -/
structure Sampled (α : Type) where
  taken : α
  candidate : Option (α × Nat)
  deriving DecidableEq, Repr

structure State where
  /-- What the part is doing (R175 to R177). -/
  phase : Phase
  /-- The part's time since the most recent cold start (Conventions, *Times*), in ns (notes/assumptions/1.md). -/
  now : Nat
  /-- KEYA, KEYB and LSTOP as the pins stand (true: active). -/
  keyA : Bool
  keyB : Bool
  lstop : Bool
  /-- The ALARM and TRIP outputs (true: asserted, active). -/
  alarm : Bool
  trip : Bool
  /-- The end of the running TRIP pulse (R149). -/
  pulseEnd : Option Nat
  identity : Identity
  /-- The working settings (chapter 11). -/
  settings : Settings
  store : Store
  save : SaveState
  /-- A RESTART has been accepted and its warm start has not begun (R167). -/
  restartPending : Bool
  portP : PortState
  portL : PortState
  /-- The malformed count (R4) and the unmatched reply count (R107), one each for the part. -/
  malformed : Word32
  unmatched : Word32
  /-- The counters of the 32 station entries (R37). -/
  counters : Vector StationCounters 32
  /-- The value image (R78). -/
  image : Vector ImageSlot 512
  /-- The transaction table, oldest first (R94). -/
  txns : List Txn
  window : Window
  key : Sampled KeyCode
  lineIn : Sampled LineState
  /-- The event queue in the order the event unit took its events, oldest first (R145, R147), and the lost count. -/
  events : List EventRecord
  lost : Word16
  /-- The commands waiting to be taken, first in, first out (the model's own). -/
  pending : List Instr
  deriving DecidableEq, Repr

/-- The part has no fault: the manual gives every command an effect in every state, if only none at all, and names no
condition that stops the part. The inductive is closed and empty, so no meaning can end in a fault. -/
inductive Fault where
  deriving DecidableEq, Repr

/-- What the model declines to run. -/
inductive Refusal where
  /-- Raised by a refused arm of `exec` for a command that has no meaning yet. Safe: the model stops. No arm raises it:
  every row of the opcode table has its meaning. -/
  | notModelled (mnemonic : String)
  deriving DecidableEq, Repr

/-! ### Values after reset -/

def zeroArrival : ArrivalCounters := ⟨0, 0, 0, 0⟩
def zeroEgress : EgressCounters := ⟨0, 0, 0, 0, 0⟩
def zeroStationCounters : StationCounters := ⟨0, 0, 0, 0⟩

/-- A port right after a cold start, its PHY reporting `up` (R1, R135, R137, R141). -/
def freshPort (up : Bool) : PortState where
  phyUp := up
  up := up
  lostAt := none
  express := []
  ordinary := []
  runCount := 0
  aloneAt := none
  arrival := zeroArrival
  egress := zeroEgress

def emptyImage : Vector ImageSlot 512 := Vector.replicate 512 .unknown

/-- The identity the model's reset names: revision 1 (R165); a unique number and an individual address that the manual
leaves to each part (DESIGN CHOICE, notes/assumptions/8.md). The address is that of the manual's first worked example. -/
def resetIdentity : Identity where
  revision := 1
  uniqueNumber := 0
  address := 0x02005A000100#48

/-- The store of a factory-new part: valid, holding the defaults (R174). -/
def factoryStore : Store where
  mark := true
  checkAgrees := true
  contents := defaultSettings

/-- The machine right after reset: a factory-new part whose cold start (R175 steps 1 to 6) is complete, both PHYs
reporting link, the key in RUN and LSTOP inactive (DESIGN CHOICE for the inputs, notes/assumptions/7.md). -/
def State.reset : State where
  phase := .running
  now := 0
  keyA := false
  keyB := false
  lstop := false
  alarm := false
  trip := false
  pulseEnd := none
  identity := resetIdentity
  settings := defaultSettings
  store := factoryStore
  save := .idle
  restartPending := false
  portP := freshPort true
  portL := freshPort true
  malformed := 0
  unmatched := 0
  counters := Vector.replicate 32 zeroStationCounters
  image := emptyImage
  txns := []
  window := .shut
  key := ⟨.run, none⟩
  lineIn := ⟨.running, none⟩
  events := []
  lost := 0
  pending := []

end Sys2Proof.Machine
end

