-- ==== Sys2Proof/Machine/Flags.lean ====
section
/-! DEFINITION. Saturating counters, and the outputs and indications computed from state: ALARM (R150), TRIP (R149) and
the group pending indications (R155). -/

namespace Sys2Proof.Machine

/-- A counter of `w` bits that stops at its largest value (Conventions, *Counters*). -/
def satInc {w : Nat} (c : BitVec w) : BitVec w := if c = BitVec.allOnes w then c else c + 1

/-- A saturating counter incremented `n` times. -/
def satAdd {w : Nat} (n : Nat) (c : BitVec w) : BitVec w :=
  match n with
  | 0 => c
  | n + 1 => satAdd n (satInc c)

/-- ALARM's comparison (R150): some queued event has an effective level greater than the alarm mask. -/
def alarmLevel (events : List EventRecord) (mask : Nat) : Bool := events.any fun e => decide (mask < e.effective)

/-- ALARM re-evaluated (R150). -/
def State.reAlarm (s : State) : State := { s with alarm := alarmLevel s.events s.settings.alarmMask }

/-- A level-7 event starts or restarts the TRIP pulse (R149). -/
def State.startTrip (s : State) : State := { s with trip := true, pulseEnd := some (s.now + Config.tripLength) }

/-- TRIP at rest (R149). -/
def State.endTrip (s : State) : State := { s with trip := false, pulseEnd := none }

/-- The group of a station entry (R22). -/
def stationGroup (n : Fin 32) : Fin 4 := ⟨n.val / 8, by omega⟩

/-- Group `g` is pending (R155). -/
def groupPending (events : List EventRecord) (g : Fin 4) : Bool :=
  events.any fun e => match e.station with
    | some n => decide (stationGroup n = g)
    | none => false

end Sys2Proof.Machine
end

