-- ==== Sys2Proof/Machine/Octets.lean ====
section
/-! DEFINITION. Octet lists: fields read and written in either byte order, the frame check sequence, and the parts of an
Ethernet frame (R3). -/

namespace Sys2Proof.Machine

/-- Unsigned number of a run of octets, most significant first. -/
def beNat : List Octet → Nat
  | [] => 0
  | o :: rest => o.toNat * 256 ^ rest.length + beNat rest

/-- Unsigned number of a run of octets, least significant first. -/
def leNat : List Octet → Nat
  | [] => 0
  | o :: rest => o.toNat + 256 * leNat rest

/-- `n` octets of a number, least significant first; higher bits are dropped. -/
def leOctets : Nat → Nat → List Octet
  | 0, _ => []
  | n + 1, v => BitVec.ofNat 8 v :: leOctets n (v / 256)

/-- `n` octets of a number, most significant first; higher bits are dropped. -/
def beOctets (n v : Nat) : List Octet := (leOctets n v).reverse

/-- `n` octets of an integer in two's complement, most significant first (R178). -/
def beOctetsInt (n : Nat) (v : Int) : List Octet := beOctets n (v % (256 ^ n : Nat)).toNat

/-- An unsigned number of `n` octets read in two's complement (R59, R178). -/
def toSigned (n v : Nat) : Int :=
  if v < 256 ^ n / 2 then (v : Int) else (v : Int) - (256 ^ n : Nat)

/-- The `n` octets at offset `i`. -/
def slice (o : List Octet) (i n : Nat) : List Octet := (o.drop i).take n

/-- The octet at offset `i`; 0 past the end, where no rule reads it. -/
def octetAt (o : List Octet) (i : Nat) : Octet := o.getD i 0

/-- The 16-bit field at offset `i`, most significant octet first. -/
def word16At (o : List Octet) (i : Nat) : Word16 := BitVec.ofNat 16 (beNat (slice o i 2))

/-- The 48-bit address at offset `i`. -/
def macAt (o : List Octet) (i : Nat) : Mac := BitVec.ofNat 48 (beNat (slice o i 6))

def word16Octets (w : Word16) : List Octet := beOctets 2 w.toNat
def word32Octets (w : Word32) : List Octet := beOctets 4 w.toNat
def macOctets (m : Mac) : List Octet := beOctets 6 m.toNat

/-- `new` written over the octets of `o` from offset `i` on. -/
def overwrite (o : List Octet) (i : Nat) (new : List Octet) : List Octet :=
  o.take i ++ new ++ o.drop (i + new.length)

/-- A group address: the least significant bit of the first octet is 1 (R16). -/
def isGroup (m : Mac) : Bool := m.getLsbD 40

/-! ### The frame check sequence

The manual names the FCS and does not give its computation; this is that of IEEE 802.3
(PRESUMED, notes/assumptions/4.md). -/

def crcBit (c : Word32) : Word32 := if c.getLsbD 0 then (c >>> 1) ^^^ Config.crcPolynomial else c >>> 1

def crcOctet (c : Word32) (o : Octet) : Word32 :=
  crcBit (crcBit (crcBit (crcBit (crcBit (crcBit (crcBit (crcBit (c ^^^ o.setWidth 32))))))))

def crc32 (o : List Octet) : Word32 := ~~~ (o.foldl crcOctet 0xFFFFFFFF#32)

/-- The four FCS octets of a frame whose other octets are `body`. -/
def fcsOctets (body : List Octet) : List Octet := leOctets 4 (crc32 body).toNat

/-- A frame's octets without its FCS. -/
def frameBody (f : List Octet) : List Octet := f.take (f.length - 4)

/-- The FCS computed over the frame equals the frame's FCS (R2). A run of fewer than four octets holds no FCS and fails
(notes/assumptions/5.md). -/
def fcsGood (f : List Octet) : Bool := decide (4 ≤ f.length) && decide (f.drop (f.length - 4) = fcsOctets (frameBody f))

/-- A frame's octets with their FCS computed and appended. -/
def withFcs (body : List Octet) : List Octet := body ++ fcsOctets body

/-! ### The parts of a frame (R3) -/

def frameDestination (f : List Octet) : Mac := macAt f 0
def frameSource (f : List Octet) : Mac := macAt f 6

/-- The frame carries a VLAN tag: the field after the source address holds 0x8100 (R3). -/
def isTagged (f : List Octet) : Bool := decide (word16At f 12 = Config.vlanType)

/-- The frame type: the field after the source address, or after the one recognised tag (R3). -/
def frameType (f : List Octet) : Word16 := if isTagged f then word16At f 16 else word16At f 12

/-- The tag control information of a tagged frame. -/
def frameTci (f : List Octet) : Option Word16 := if isTagged f then some (word16At f 14) else none

/-- Octets before the payload: 14, or 18 with a tag. -/
def headerLength (f : List Octet) : Nat := if isTagged f then 18 else 14

/-- The octets from the first after the frame type up to, but not including, the FCS. -/
def payload (f : List Octet) : List Octet := (frameBody f).drop (headerLength f)

/-- A frame the part forms, its body padded with zero octets so that the frame is at least 64 octets long (R158, R179). -/
def formFrame (destination source : Mac) (tci : Option Word16) (type : Word16) (content : List Octet) : List Octet :=
  let tag := match tci with
    | some t => word16Octets Config.vlanType ++ word16Octets t
    | none => []
  let body := macOctets destination ++ macOctets source ++ tag ++ word16Octets type ++ content
  withFcs (body ++ List.replicate (Config.minFrameLength - 4 - body.length) 0#8)

/-- The payload of a reply or notice: version 1, kind, request number, result code, result length, result octets
(Frame and Record Layouts, R179). -/
def replyContent (kind number code : Octet) (result : List Octet) : List Octet :=
  [Config.protocolVersion, kind, number, code] ++ beOctets 2 result.length ++ result

/-- `f` at every index, as a vector: the one way the model builds a changed table of the 512 slots or 32 entries. -/
def tabulate {α : Type} {n : Nat} (f : Fin n → α) : Vector α n := ⟨(List.ofFn f).toArray, by simp⟩

end Sys2Proof.Machine
end

