-- ==== Sys2Proof/Machine/Ops.lean ====
section
/-! DEFINITION. The named operations over State that every block uses: the clock, the ports and their counters, station
entries and their counters, lookups, image slots and the key position. -/

namespace Sys2Proof.Machine

/-! ### The clock -/

/-- The present time becomes the time at which a command is taken; it does not run back, and it does not run without
supply or while RESET is asserted (notes/assumptions/1.md). -/
def State.clock (t : Nat) (s : State) : State :=
  match s.phase with
  | .off | .resetHeld => s
  | .loadingCold | .loadingWarm | .running => { s with now := max s.now t }

/-! ### Ports -/

def State.port (s : State) : Port → PortState
  | .P => s.portP
  | .L => s.portL

def State.setPort (p : Port) (ps : PortState) (s : State) : State :=
  match p with
  | .P => { s with portP := ps }
  | .L => { s with portL := ps }

/-- The port has received what arrives now: it is UP, or its loss of link was taken first at this same moment (R1, R93,
R170). -/
def PortState.heardAt (now : Nat) (ps : PortState) : Bool := ps.up || decide (ps.lostAt = some now)

/-- The port gives up what it has received: no start is under way (R1, R175, R176). -/
def State.receives (s : State) (p : Port) : Bool := decide (s.phase = .running) && (s.port p).heardAt s.now

def State.countFcsError (p : Port) (s : State) : State :=
  let ps := s.port p
  s.setPort p { ps with arrival := { ps.arrival with fcsErrors := satInc ps.arrival.fcsErrors } }

def State.countLengthError (p : Port) (s : State) : State :=
  let ps := s.port p
  s.setPort p { ps with arrival := { ps.arrival with lengthErrors := satInc ps.arrival.lengthErrors } }

def State.countStray (p : Port) (s : State) : State :=
  let ps := s.port p
  s.setPort p { ps with arrival := { ps.arrival with strayManagement := satInc ps.arrival.strayManagement } }

def State.countForeignDrop (p : Port) (s : State) : State :=
  let ps := s.port p
  s.setPort p { ps with arrival := { ps.arrival with foreignDrops := satInc ps.arrival.foreignDrops } }

def State.countMalformed (s : State) : State := { s with malformed := satInc s.malformed }

def State.countUnmatched (s : State) : State := { s with unmatched := satInc s.unmatched }

/-! ### Settings and stations -/

def State.withSettings (st : Settings) (s : State) : State := { s with settings := st }

def State.station (s : State) (n : Fin 32) : StationEntry := s.settings.stations[n]

def Settings.setStation (n : Fin 32) (e : StationEntry) (st : Settings) : Settings :=
  { st with stations := st.stations.set n e }

def State.setStation (n : Fin 32) (e : StationEntry) (s : State) : State :=
  { s with settings := s.settings.setStation n e }

def State.setStationState (n : Fin 32) (v : StationState) (s : State) : State :=
  s.setStation n { s.station n with state := v }

def State.setCounters (n : Fin 32) (c : StationCounters) (s : State) : State :=
  { s with counters := s.counters.set n c }

/-- The entry's admitted counter, and its clamped counter where a value was clamped (R73). -/
def State.countAdmitted (n : Fin 32) (clamped : Bool) (s : State) : State :=
  let c := s.counters[n]
  s.setCounters n
    { c with admitted := satInc c.admitted, clamped := if clamped then satInc c.clamped else c.clamped }

def State.countRefused (n : Fin 32) (s : State) : State :=
  let c := s.counters[n]
  s.setCounters n { c with refused := satInc c.refused }

def State.countDrift (n : Fin 32) (s : State) : State :=
  let c := s.counters[n]
  s.setCounters n { c with drift := satInc c.drift }

/-! ### Lookup and the image -/

/-- The slot of a bank whose record has the key (R50); `none` where the key is unlisted. -/
def findSlot (b : Bank) (k : Key) : Option (Fin 512) :=
  match b.toList.findIdx? fun r => r.any fun r => decide (r.key = k) with
  | some i => if h : i < 512 then some ⟨i, h⟩ else none
  | none => none

/-- The slot number and the record a lookup returns (R50). -/
def lookup (b : Bank) (k : Key) : Option (Fin 512 × ParamRecord) :=
  match findSlot b k with
  | some i => b[i].map fun r => (i, r)
  | none => none

def State.setImage (i : Fin 512) (v : ImageSlot) (s : State) : State := { s with image := s.image.set i v }

/-! ### Transactions -/

/-- The entry has transactions in flight, QUEUED or SENT (chapter 2, *Loading and clearing entries*). -/
def State.inFlight (s : State) (n : Fin 32) : Bool := s.txns.any fun t => decide (t.ref.station = n)

/-- The CHANGE-mode transactions in the table (R125, R126). -/
def State.changeInFlight (s : State) : Nat := (s.txns.filter fun t => decide (t.mode = .change)).length

/-! ### Key position -/

/-- The position a key code gives (R113). -/
def KeyCode.position : KeyCode → KeyPosition
  | .run => .run
  | .changeover => .changeover
  | .service => .service
  | .fault => .run

/-- The code the contacts show (R113). -/
def contactCode (keyA keyB : Bool) : KeyCode :=
  match keyA, keyB with
  | false, false => .run
  | true, false => .changeover
  | false, true => .service
  | true, true => .fault

/-- The line state LSTOP shows (R116). -/
def lineOf (lstop : Bool) : LineState := if lstop then .stopped else .running

/-- The key position every condition reads: that of the taken code (R113). -/
def State.keyPosition (s : State) : KeyPosition := s.key.taken.position

/-- A save runs while the save state is SAVING (R166). -/
def State.saving (s : State) : Bool :=
  match s.save with
  | .saving _ => true
  | .idle | .failed => false

end Sys2Proof.Machine
end

