-- ==== Sys2Proof/Machine/Egress.lean ====
section
/-! DEFINITION. The egress scheduler (chapter 8): entering the queues, drops, the arbiter, completion and the flush. -/

namespace Sys2Proof.Machine

/-- A frame handed over for forwarding. -/
def forwardedFrame (octets : List Octet) (txn : Option TxnRef) : QueuedFrame where
  octets := octets
  origin := .forwarded
  txn := txn
  restart := false
  inTransmission := false

/-- A frame the part generated: a reply or a notice. -/
def partFrame (octets : List Octet) (restart : Bool) : QueuedFrame where
  octets := octets
  origin := .part
  txn := none
  restart := restart
  inTransmission := false

def PortState.queue (ps : PortState) : QueueKind → List QueuedFrame
  | .express => ps.express
  | .ordinary => ps.ordinary

/-- The queue's capacity (R132). -/
def queueCapacity : QueueKind → Nat
  | .express => Config.expressCapacity
  | .ordinary => Config.ordinaryCapacity

/-- No frame of the port is IN TRANSMISSION (R136). -/
def PortState.transmitterFree (ps : PortState) : Bool :=
  !(ps.express.any (·.inTransmission)) && !(ps.ordinary.any (·.inTransmission))

/-- The queue's head begins transmission. -/
def startHead : List QueuedFrame → List QueuedFrame
  | [] => []
  | f :: rest => { f with inTransmission := true } :: rest

/-- The arbiter's selection (R136): made when the transmitter is free, the link is UP and a frame waits; `share` is the
port's ordinary share N. -/
def PortState.select (share : Nat) (ps : PortState) : PortState :=
  if ps.up && ps.transmitterFree then
    match ps.ordinary, ps.express with
    | [], [] => ps
    | _ :: _, [] => { ps with ordinary := startHead ps.ordinary, runCount := 0 }
    | _ :: _, _ :: _ =>
      if share ≤ ps.runCount then { ps with ordinary := startHead ps.ordinary, runCount := 0 }
      else { ps with express := startHead ps.express, runCount := ps.runCount + 1 }
    | [], _ :: _ => { ps with express := startHead ps.express }
  else ps

/-- A handed-over frame can enter (R133): the port is UP and the queue has a free place. -/
def PortState.accepts (ps : PortState) (k : QueueKind) : Bool :=
  ps.up && decide ((ps.queue k).length < queueCapacity k)

/-- The frame becomes the queue's newest. -/
def PortState.push (k : QueueKind) (f : QueuedFrame) (ps : PortState) : PortState :=
  match k with
  | .express => { ps with express := ps.express ++ [f] }
  | .ordinary => { ps with ordinary := ps.ordinary ++ [f] }

/-- A frame that cannot enter its queue is dropped and counted (R134). -/
def PortState.countDrop (k : QueueKind) (o : Origin) (ps : PortState) : PortState :=
  let c := ps.egress
  match o with
  | .part => { ps with egress := { c with lostPartFrames := satInc c.lostPartFrames } }
  | .forwarded =>
    if ps.up then
      match k with
      | .express => { ps with egress := { c with expressFullDrops := satInc c.expressFullDrops } }
      | .ordinary => { ps with egress := { c with ordinaryFullDrops := satInc c.ordinaryFullDrops } }
    else { ps with egress := { c with downDrops := satInc c.downDrops } }

/-- An express frame that enters now would be selected alone: the transmitter is free and no ordinary frame waits. -/
def PortState.entersAlone (ps : PortState) (k : QueueKind) : Bool :=
  decide (k = .express) && ps.transmitterFree && decide (ps.ordinary = [])

/-- The ordinary frame that enters now does so at the moment at which the express frame in transmission was selected alone:
it waited at that selection (R142, fourth line). -/
def PortState.joinsSelection (now share : Nat) (k : QueueKind) (ps : PortState) : Bool :=
  decide (k = .ordinary) && decide (ps.aloneAt = some now) && decide (ps.ordinary = []) &&
    ps.express.any (·.inTransmission) && decide (ps.runCount < share)

/-- A frame enters at time `now` a port that works with ordinary share `share`: it becomes the newest of its queue, and a
selection is made where the transmitter is free (R133, R136). A selection and an entry of the other queue at the same moment
are one selection with both frames waiting (R142, fourth line). -/
def PortState.enter (now share : Nat) (k : QueueKind) (f : QueuedFrame) (ps : PortState) : PortState :=
  if ps.entersAlone k then { (ps.push k f).select share with aloneAt := some now }
  else if ps.joinsSelection now share k then { ps.push k f with runCount := ps.runCount + 1, aloneAt := none }
  else (ps.push k f).select share

/-- A frame handed over at time `now` (R133, R134). -/
def PortState.handOver (now share : Nat) (k : QueueKind) (f : QueuedFrame) (ps : PortState) : PortState :=
  if ps.accepts k then ps.enter now share k f else ps.countDrop k f.origin

/-- A frame handed to the scheduler for queue `k` of port `p`. -/
def State.handOver (p : Port) (k : QueueKind) (f : QueuedFrame) (s : State) : State :=
  s.setPort p ((s.port p).handOver s.now (s.settings.port p).share k f)

/-- A received frame forwarded unchanged toward `p`, without a transaction mark. -/
def State.forward (p : Port) (k : QueueKind) (octets : List Octet) (s : State) : State :=
  s.handOver p k (forwardedFrame octets none)

/-- A selection on port `p` (R138 step 3). -/
def State.selectOn (p : Port) (s : State) : State := s.setPort p ((s.port p).select (s.settings.port p).share)

/-- The frame IN TRANSMISSION on the port, and the port once that frame has left its queue and been counted as sent
(R138); `none` when the transmitter is free. -/
def PortState.complete (ps : PortState) : Option (QueuedFrame × PortState) :=
  let c := { ps.egress with framesSent := satInc ps.egress.framesSent }
  match ps.express, ps.ordinary with
  | f :: rest, ord =>
    if f.inTransmission then some (f, { ps with express := rest, aloneAt := none, egress := c })
    else match ord with
      | g :: rest' => if g.inTransmission then some (g, { ps with ordinary := rest', aloneAt := none, egress := c }) else none
      | [] => none
  | [], g :: rest' => if g.inTransmission then some (g, { ps with ordinary := rest', aloneAt := none, egress := c }) else none
  | [], [] => none

/-- The frames of a port that a loss of link takes: those of the express queue, then those of the ordinary queue (R140). -/
def PortState.allFrames (ps : PortState) : List QueuedFrame := ps.express ++ ps.ordinary

/-- The port at a loss of link (R140 steps 1 to 4): DOWN, both queues empty, each frame counted once, run count 0. -/
def PortState.flush (now : Nat) (ps : PortState) : PortState :=
  let lost := ps.allFrames
  let forwarded := (lost.filter fun f => decide (f.origin = .forwarded)).length
  let parts := (lost.filter fun f => decide (f.origin = .part)).length
  { ps with
    up := false
    lostAt := some now
    express := []
    ordinary := []
    runCount := 0
    aloneAt := none
    egress :=
      { ps.egress with
        downDrops := satAdd forwarded ps.egress.downDrops
        lostPartFrames := satAdd parts ps.egress.lostPartFrames } }

/-- A start empties both queues, frees the transmitter and sets the run count to 0; nothing is counted (R141). -/
def PortState.emptied (ps : PortState) : PortState :=
  { ps with express := [], ordinary := [], runCount := 0, aloneAt := none }

end Sys2Proof.Machine
end

