-- ==== Sys2Proof/Machine/Operands.lean ====
section
/-! DEFINITION. How arguments and results are carried in octets (R178, R179, Frame and Record Layouts): each record read
from the arguments of a request and written into a result. A reader answers `none` where an octet holds no listed code
or a number lies outside its stated range. -/

namespace Sys2Proof.Machine

/-- The unsigned number of `n` octets at offset `i`, most significant first. -/
def natAt (o : List Octet) (i n : Nat) : Nat := beNat (slice o i n)

/-- A number below `n`, or nothing: an entry, a slot, a profile or an area named by a request. -/
def finOfNat (n v : Nat) : Option (Fin n) := if h : v < n then some ⟨v, h⟩ else none

/-- An address field; six zero octets are the empty address (R178). -/
def optMacAt (o : List Octet) (i : Nat) : Option Mac := if macAt o i = 0 then none else some (macAt o i)

def optMacOctets : Option Mac → List Octet
  | some m => macOctets m
  | none => List.replicate 6 0

/-! ### Profile records (84 octets) -/

def readMapEntry (o : List Octet) (i : Nat) : Option MapEntry := do
  let cls ← FrameClass.ofCode (octetAt o (i + 1))
  let role ← Role.ofCode (octetAt o (i + 2))
  pure ⟨octetAt o i, cls, role⟩

/-- The function-map entries within the entry count; those beyond it are ignored (R178). -/
def readMap (o : List Octet) : Option (List MapEntry) :=
  let n := (octetAt o 35).toNat
  if n ≤ 16 then (List.range n).mapM fun k => readMapEntry o (36 + 3 * k) else none

/-- A profile record, where every coded field holds a listed code (R7 check 3). -/
def readProfileRecord (o : List Octet) : Option Profile := do
  let inUse ← boolOfCode (octetAt o 0)
  let discPresent ← boolOfCode (octetAt o 3)
  let order ← ByteOrder.ofCode (octetAt o 7)
  let stationPresent ← boolOfCode (octetAt o 12)
  let tagPresent ← boolOfCode (octetAt o 15)
  let rewrite ← boolOfCode (octetAt o 34)
  let map ← readMap o
  pure
    { inUse := inUse
      frameType := word16At o 1
      discriminator := if discPresent then some ⟨word16At o 4, octetAt o 6⟩ else none
      byteOrder := some order
      minLength := word16At o 8
      maxLength := word16At o 10
      stationField := if stationPresent then some (word16At o 13) else none
      tagField := if tagPresent then some ⟨word16At o 16, octetAt o 18⟩ else none
      functionOffset := word16At o 19
      areaOffset := word16At o 21
      indexOffset := word16At o 23
      countOffset := word16At o 25
      firstValueOffset := word16At o 27
      valueWidth := octetAt o 29
      statusOffset := word16At o 30
      successStatus := octetAt o 32
      replyTimeout := octetAt o 33
      rewritePermitted := rewrite
      functionMap := map }

def mapEntryOctets (e : MapEntry) : List Octet := [e.code, e.cls.code, e.role.code]

/-- The sixteen map entries of a record, those beyond the entry count as zero octets (notes/assumptions/11.md). -/
def mapOctets (m : List MapEntry) : List Octet :=
  let given := (m.take 16).flatMap mapEntryOctets
  given ++ List.replicate (48 - given.length) 0

def profileOctets (p : Profile) : List Octet :=
  [boolCode p.inUse] ++ word16Octets p.frameType ++
  (match p.discriminator with
    | some d => [1] ++ word16Octets d.offset ++ [d.value]
    | none => [0, 0, 0, 0]) ++
  [match p.byteOrder with
    | some b => b.code
    | none => 0] ++
  word16Octets p.minLength ++ word16Octets p.maxLength ++
  (match p.stationField with
    | some w => [1] ++ word16Octets w
    | none => [0, 0, 0]) ++
  (match p.tagField with
    | some t => [1] ++ word16Octets t.offset ++ [t.width]
    | none => [0, 0, 0, 0]) ++
  word16Octets p.functionOffset ++ word16Octets p.areaOffset ++ word16Octets p.indexOffset ++
  word16Octets p.countOffset ++ word16Octets p.firstValueOffset ++ [p.valueWidth] ++ word16Octets p.statusOffset ++
  [p.successStatus, p.replyTimeout, boolCode p.rewritePermitted, BitVec.ofNat 8 p.functionMap.length] ++
  mapOctets p.functionMap

/-! ### Station configurations (12 octets) and area policies (2 octets) -/

/-- A station configuration whose coded fields hold listed codes and whose profile is in 0..3 (R24 check 3, the address
checks apart). In ADDRESS mode the embedded number is ignored and kept as 0. -/
def readStationConfig (o : List Octet) : Option StationConfig := do
  let mode ← IdMode.ofCode (octetAt o 0)
  let profile ← finOfNat 4 (octetAt o 8).toNat
  let member ← boolOfCode (octetAt o 9)
  let onBreach ← boolOfCode (octetAt o 10)
  let enters ← boolOfCode (octetAt o 11)
  pure
    { mode := mode
      address := macAt o 1
      embedded := match mode with
        | .embedded => octetAt o 7
        | .address => 0
      profile := profile
      member := member
      quarantineOnBreach := onBreach
      enters := enters }

def stationConfigOctets (c : StationConfig) : List Octet :=
  [c.mode.code] ++ macOctets c.address ++
  [c.embedded, BitVec.ofNat 8 c.profile.val, boolCode c.member, boolCode c.quarantineOnBreach, boolCode c.enters]

def policyOctets (p : AreaPolicy) : List Octet := [p.unlisted.code, p.read.code]

/-! ### Parameter records (34 octets) -/

/-- The octets of a kind: 2 for S16 and U16, 4 for S32 and U32 (R38). -/
def Kind.width : Kind → Nat
  | .s16 | .u16 => 2
  | .s32 | .u32 => 4

/-- Whether the kind is read in two's complement (R59). -/
def Kind.signed : Kind → Bool
  | .s16 | .s32 => true
  | .u16 | .u32 => false

/-- The least and greatest value of a kind (R38). -/
def Kind.least : Kind → Int
  | .s16 => -32768
  | .u16 => 0
  | .s32 => -2147483648
  | .u32 => 0

def Kind.greatest : Kind → Int
  | .s16 => 32767
  | .u16 => 65535
  | .s32 => 2147483647
  | .u32 => 4294967295

def Kind.inRange (k : Kind) (v : Int) : Bool := decide (k.least ≤ v) && decide (v ≤ k.greatest)

/-- An unsigned number of `n` octets interpreted by a kind (R59, R178). -/
def Kind.interpret (k : Kind) (n v : Nat) : Int := if k.signed then toSigned n v else v

/-- A bound of a parameter record: 4 octets, read by the record's kind (R178). -/
def boundAt (k : Kind) (o : List Octet) (i : Nat) : Int := k.interpret 4 (natAt o i 4)

/-- A parameter record whose fields lie in their listed values (R42 check 2). -/
def readParamRecord (o : List Octet) : Option ParamRecord := do
  let station ← finOfNat 32 (octetAt o 0).toNat
  let area ← finOfNat 16 (octetAt o 1).toNat
  let kind ← Kind.ofCode (octetAt o 4)
  let steps ← boolOfCode (octetAt o 21)
  let policy ← Policy.ofCode (octetAt o 32)
  let q := natAt o 30 2
  let crit := (octetAt o 33).toNat
  if 1 ≤ q ∧ 1 ≤ crit ∧ crit ≤ 7 then
    pure
      { key := ⟨station, area, word16At o 2⟩
        kind := kind
        runLo := boundAt kind o 5
        runHi := boundAt kind o 9
        chgLo := boundAt kind o 13
        chgHi := boundAt kind o 17
        stepLimits := steps
        stepUp := natAt o 22 4
        stepDown := natAt o 26 4
        quantum := q
        policy := policy
        criticality := crit }
  else none

def paramOctets (r : ParamRecord) : List Octet :=
  [BitVec.ofNat 8 r.key.station.val, BitVec.ofNat 8 r.key.area.val] ++ word16Octets r.key.index ++ [r.kind.code] ++
  beOctetsInt 4 r.runLo ++ beOctetsInt 4 r.runHi ++ beOctetsInt 4 r.chgLo ++ beOctetsInt 4 r.chgHi ++
  [boolCode r.stepLimits] ++ beOctets 4 r.stepUp ++ beOctets 4 r.stepDown ++ beOctets 2 r.quantum ++
  [r.policy.code, BitVec.ofNat 8 r.criticality]

/-! ### Event records (38 octets) -/

def presenceBit {α : Type} (x : Option α) (bit : Octet) : Octet := if x.isSome then bit else 0

def optIntOctets : Option Int → List Octet
  | some v => beOctetsInt 8 v
  | none => List.replicate 8 0

def optReasonOctet : Option Reason → Octet
  | some r => r.code
  | none => 0

def eventOctets (e : EventRecord) : List Octet :=
  [e.kind.code, BitVec.ofNat 8 e.natural, BitVec.ofNat 8 e.effective, BitVec.ofNat 8 e.rank, boolCode e.forced,
    presenceBit e.station 0x01 ||| presenceBit e.key 0x02 ||| presenceBit e.valueA 0x04 ||| presenceBit e.valueB 0x08 |||
      presenceBit e.reason 0x10 ||| presenceBit e.source 0x20,
    match e.station with
    | some n => BitVec.ofNat 8 n.val
    | none => 0] ++
  (match e.key with
    | some (a, i) => [BitVec.ofNat 8 a.val] ++ word16Octets i
    | none => [0, 0, 0]) ++
  optIntOctets e.valueA ++ optIntOctets e.valueB ++ [optReasonOctet e.reason, optReasonOctet e.qualifier] ++
  optMacOctets e.source ++ word32Octets e.time

/-! ### Image slot entries (28 octets) -/

def imageSlotOctets (i : Fin 512) (rec : Option ParamRecord) (v : ImageSlot) : List Octet :=
  beOctets 2 i.val ++
  (match rec with
    | some r => [1, BitVec.ofNat 8 r.key.station.val, BitVec.ofNat 8 r.key.area.val] ++ word16Octets r.key.index
    | none => [0, 0, 0, 0, 0]) ++
  [v.code] ++
  (match v with
    | .unknown => [0] ++ List.replicate 19 0
    | .known c => [1] ++ beOctetsInt 8 c ++ List.replicate 11 0
    | .pending c p t =>
      [boolCode c.isSome] ++ optIntOctets c ++ beOctetsInt 8 p ++ [BitVec.ofNat 8 t.station.val] ++ word16Octets t.tag)

end Sys2Proof.Machine
end

