-- ==== Sys2Proof/Machine/Events.lean ====
section
/-! DEFINITION. The event unit (chapter 9): levels and promotion, priority, entry, TRIP, ALARM and notices. -/

namespace Sys2Proof.Machine

/-- Effective level and promotion rank (R144). -/
def levels (st : Settings) (kind : EventKind) (natural : Nat) : Nat × Nat :=
  if natural = 7 then (7, 0)
  else if st.promotionA = some kind then (6, 2)
  else if st.promotionB = some kind then (6, 1)
  else (natural, 0)

/-- The event record the unit makes of a raised event at the time it takes it (R143, R144). -/
def makeRecord (st : Settings) (now : Nat) (r : Raised) : EventRecord where
  kind := r.kind
  natural := r.natural
  effective := (levels st r.kind r.natural).1
  rank := (levels st r.kind r.natural).2
  forced := r.forced
  station := r.station
  key := r.key
  valueA := r.valueA
  valueB := r.valueB
  reason := r.reason
  qualifier := r.qualifier
  source := r.source
  time := BitVec.ofNat 32 (Config.wholeMs now)

/-- The first three comparisons of R145 favour `x`: level, then rank, then not forced against forced. -/
def beats (x y : EventRecord) : Bool :=
  if x.effective ≠ y.effective then decide (y.effective < x.effective)
  else if x.rank ≠ y.rank then decide (y.rank < x.rank)
  else !x.forced && y.forced

/-- The event of highest priority of a queue held oldest first, and the others in their order (R145): of events the first
three comparisons do not distinguish, the oldest. -/
def takeHighest : List EventRecord → Option (EventRecord × List EventRecord)
  | [] => none
  | e :: rest =>
    match takeHighest rest with
    | none => some (e, rest)
    | some (h, others) => if beats h e then some (h, e :: others) else some (e, rest)

/-- The event of lowest priority, and the others in their order (R145): of events the first three comparisons do not
distinguish, the newest. -/
def takeLowest : List EventRecord → Option (EventRecord × List EventRecord)
  | [] => none
  | e :: rest =>
    match takeLowest rest with
    | none => some (e, rest)
    | some (l, others) => if beats l e then some (e, rest) else some (l, e :: others)

/-- The masks and enables let the event enter (R146). -/
def mayEnter (st : Settings) (e : EventRecord) : Bool :=
  if e.effective = 7 then true
  else match e.station with
    | some n => st.stations[n].config.enters && st.groupEnables[stationGroup n]
    | none => true

/-- What became of an event at the queue (R147). -/
structure EntryResult where
  events : List EventRecord
  lost : Word16
  joined : Bool
  deriving DecidableEq, Repr

/-- An event allowed to enter joins, displaces the lowest or is discarded (R147). -/
def enterQueue (events : List EventRecord) (lost : Word16) (e : EventRecord) : EntryResult :=
  if events.length < Config.maxEvents then ⟨events ++ [e], lost, true⟩
  else match takeLowest events with
    | none => ⟨events, satInc lost, false⟩
    | some (l, others) =>
      if l.effective < 7 ∧ beats e l = true then ⟨others ++ [e], satInc lost, true⟩
      else ⟨events, satInc lost, false⟩

/-- The fate of a taken event (R146, R147): kept out, nothing changes and nothing is lost. -/
def entryOf (s : State) (e : EventRecord) : EntryResult :=
  if mayEnter s.settings e then enterQueue s.events s.lost e else ⟨s.events, s.lost, false⟩

/-- The notice of an event that has joined the queue (R151, R179). -/
def noticeFrame (s : State) (e : EventRecord) (address : Mac) : List Octet :=
  formFrame address s.identity.address none s.settings.managementType
    (replyContent Config.noticeKind 0 ResultCode.ok.code
      (eventOctets e ++ [BitVec.ofNat 8 s.events.length] ++ word16Octets s.lost))

/-- A notice is formed and handed over when a destination is set (R151). -/
def State.sendNotice (e : EventRecord) (s : State) : State :=
  match s.settings.notice with
  | none => s
  | some d => s.handOver d.port .ordinary (partFrame (noticeFrame s e d.address) false)

/-- The queue and the lost count take the result of an entry, and ALARM is re-evaluated (R147, R150). -/
def State.withEntry (r : EntryResult) (s : State) : State := ({ s with events := r.events, lost := r.lost }).reAlarm

/-- Steps 1 to 3 of R148: levels, TRIP for level 7, entry, ALARM and the notice. The LEVEL7 report is `State.raise`'s. -/
def State.takeRaised (r : Raised) (s : State) : State :=
  let e := makeRecord s.settings s.now r
  let s1 := if e.effective = 7 then s.startTrip else s
  let result := entryOf s1 e
  let s2 := s1.withEntry result
  if result.joined then s2.sendNotice e else s2

/-- Whether the event a block is about to raise will join the queue (R153). -/
def State.wouldJoin (r : Raised) (s : State) : Bool := (entryOf s (makeRecord s.settings s.now r)).joined

end Sys2Proof.Machine
end

