-- ==== Sys2Proof/Machine/Window.lean ====
section
/-! DEFINITION. The window controller (chapter 7): the close, draining, the end-of-changeover check, hold-off and the
trigger reports, and the raising of an event with its LEVEL7 report (R148). -/

namespace Sys2Proof.Machine

/-- The trigger's reason code (R125). -/
def Trigger.reason : Trigger → Reason
  | .lineStart => .lineStart
  | .level7 => .level7
  | .drift => .drift
  | .timeout => .timeout
  | .link => .link

def CloseCause.reason : CloseCause → Reason
  | .request _ => .request
  | .key => .key
  | .expiry => .expiry
  | .trigger t _ => t.reason

/-- The natural level of WINDOW-CLOSED by its cause (R125). -/
def CloseCause.level : CloseCause → Nat
  | .request _ | .key => 1
  | .expiry => 2
  | .trigger _ _ => 4

/-- Value B of WINDOW-CLOSED: the station the report named, for DRIFT and TIMEOUT (R125). -/
def CloseCause.station : CloseCause → Option (Fin 32)
  | .trigger .drift n | .trigger .timeout n => n
  | .request _ | .key | .expiry | .trigger .lineStart _ | .trigger .level7 _ | .trigger .link _ => none

def CloseCause.source : CloseCause → Option Mac
  | .request m => some m
  | .key | .expiry | .trigger _ _ => none

/-- WINDOW-CLOSED with `inFlight` CHANGE-mode transactions in the table (R125). -/
def closedEvent (c : CloseCause) (inFlight : Nat) : Raised where
  kind := .windowClosed
  natural := c.level
  valueA := some inFlight
  valueB := c.station.map fun n => (n.val : Int)
  reason := some c.reason
  source := c.source

/-! ### The end-of-changeover check (R127) -/

/-- The image slots of the active bank's records that name the station, each with its record. -/
def stationSlots (s : State) (n : Fin 32) : List (ParamRecord × ImageSlot) :=
  (s.settings.activeBank.toList.zip s.image.toList).filterMap fun (r, v) =>
    match r with
    | some rec => if rec.key.station = n then some (rec, v) else none
    | none => none

/-- KNOWN slots whose committed value lies outside the record's run envelope. -/
def outsideCount (s : State) (n : Fin 32) : Nat :=
  ((stationSlots s n).filter fun (r, v) => match v with
    | .known c => decide (c < r.runLo) || decide (r.runHi < c)
    | .unknown | .pending _ _ _ => false).length

/-- UNKNOWN slots. -/
def unknownCount (s : State) (n : Fin 32) : Nat :=
  ((stationSlots s n).filter fun (_, v) => match v with
    | .unknown => true
    | .known _ | .pending _ _ _ => false).length

def incompleteEvent (n : Fin 32) (outside unknown : Nat) : Raised where
  kind := .changeoverIncomplete
  natural := 5
  station := some n
  valueA := some outside
  valueB := some unknown

/-- The check of one station entry: only an in-use member with a non-zero count raises CHANGEOVER-INCOMPLETE. -/
def checkStation (s : State) (n : Fin 32) : State :=
  let e := s.station n
  if e.inUse ∧ e.config.member ∧ ¬(outsideCount s n = 0 ∧ unknownCount s n = 0) then
    s.takeRaised (incompleteEvent n (outsideCount s n) (unknownCount s n))
  else s

/-- The end-of-changeover check, in order of entry number (R127). -/
def State.changeoverCheck (s : State) : State := (List.finRange 32).foldl checkStation s

/-- The hold-off is applied as it stands (R128). -/
def State.startHoldOff (s : State) : State :=
  { s with window := if s.settings.holdOff = 0 then .shut else .holdOff (s.now + Config.seconds s.settings.holdOff) }

/-- DRAINING is examined (R126): with no CHANGE-mode transaction in the table it ends, with the check and hold-off. -/
def State.examineDraining (s : State) : State :=
  if s.window = .draining ∧ s.changeInFlight = 0 then s.changeoverCheck.startHoldOff else s

/-- An OPEN window closes (R125); any other window is left as it is (R131). -/
def State.closeWindow (c : CloseCause) (s : State) : State :=
  match s.window with
  | .opened _ _ => (({ s with window := .draining }).takeRaised (closedEvent c s.changeInFlight)).examineDraining
  | .shut | .draining | .holdOff _ => s

/-- A report of a trigger (R124): it closes an OPEN window when the trigger is in the set. -/
def State.report (t : Trigger) (n : Option (Fin 32)) (s : State) : State :=
  if s.settings.triggers.has t then s.closeWindow (.trigger t n) else s

/-- An event is raised (R148): the event unit takes it, and a level-7 event is then reported to the window controller. -/
def State.raise (r : Raised) (s : State) : State :=
  let s1 := s.takeRaised r
  if r.natural = 7 then s1.report .level7 none else s1

/-- The ending of a CHANGE-mode transaction is reported (R106, R124, R126). -/
def State.reportEnding (o : TxnOutcome) (n : Fin 32) (s : State) : State :=
  match s.window with
  | .opened _ _ => if o = .timeout then s.report .timeout (some n) else s
  | .draining => s.examineDraining
  | .shut | .holdOff _ => s

/-! ### The taken inputs -/

/-- The window states in which drift of a member is judged against the changeover envelope (R86). -/
def Window.changeoverEnvelope : Window → Bool
  | .opened _ _ | .draining => true
  | .shut | .holdOff _ => false

def Window.isOpen : Window → Bool
  | .opened _ _ => true
  | .shut | .draining | .holdOff _ => false

/-- Seconds remaining (R129), rounded up. -/
def State.secondsRemaining (s : State) : Nat :=
  match s.window with
  | .opened _ d | .holdOff d => Config.secondsUp (d - s.now)
  | .shut | .draining => 0

def keyFaultEvent (previous : Option KeyPosition) : Raised where
  kind := .keyFault
  natural := 6
  reason := previous.map .position

/-- Every in-use station in SERVICE returns to NORMAL (R30). -/
def endAllService (st : Vector StationEntry 32) : Vector StationEntry 32 :=
  tabulate fun n =>
    let e := st[n]
    if e.inUse ∧ e.state = .service then { e with state := .normal } else e

def State.leaveService (s : State) : State :=
  { s with settings := { s.settings with stations := endAllService s.settings.stations } }

/-- The taken key code becomes `code` and its effects follow in the order R115 lists them. -/
def State.takeKeyCode (code : KeyCode) (s : State) : State :=
  let old := s.key.taken
  let s1 := { s with key := ⟨code, none⟩ }
  let s2 := if old.position = .service ∧ code.position ≠ .service then s1.leaveService else s1
  let s3 := if old.position = .changeover ∧ code.position ≠ .changeover then s2.closeWindow .key else s2
  if code = .fault ∧ old ≠ .fault then s3.raise (keyFaultEvent (some old.position)) else s3

/-- The taken line state becomes `line`; STOPPED to RUNNING is the line-start report (R116). -/
def State.takeLineState (line : LineState) (s : State) : State :=
  let old := s.lineIn.taken
  let s1 := { s with lineIn := ⟨line, none⟩ }
  if old = .stopped ∧ line = .running then s1.report .lineStart none else s1

/-- The input now shows `v` (R114): the taken value abandons any candidate, another value than the candidate becomes the
candidate from this moment, and the candidate itself changes nothing. -/
def Sampled.shows {α : Type} [DecidableEq α] (v : α) (now : Nat) (x : Sampled α) : Sampled α :=
  if v = x.taken then { x with candidate := none }
  else match x.candidate with
    | some (c, t) => if c = v then { x with candidate := some (c, t) } else { x with candidate := some (v, now) }
    | none => { x with candidate := some (v, now) }

/-- The candidate that has been shown for the stability interval, if any (R114). -/
def Sampled.stable {α : Type} (now : Nat) (x : Sampled α) : Option α :=
  match x.candidate with
  | some (c, t) => if t + Config.stability ≤ now then some c else none
  | none => none

end Sys2Proof.Machine
end

