-- ==== Sys2Proof/Machine/Image.lean ====
section
/-! DEFINITION. The value image (chapter 5): holding and releasing slots, learning from read replies, drift, the breach
check and breach quarantine (R32). -/

namespace Sys2Proof.Machine

/-! ### Slots held by writes -/

/-- A slot at the admission of a tracked write of `v` (R79). -/
def ImageSlot.hold (v : Int) (t : TxnRef) : ImageSlot → ImageSlot
  | .unknown => .pending none v t
  | .known c => .pending (some c) v t
  | .pending c _ _ => .pending c v t

/-- A slot with a committed value, or UNKNOWN without one (R80). -/
def ofCommitted : Option Int → ImageSlot
  | some c => .known c
  | none => .unknown

/-- A slot when the transaction that holds it ends (R80); a slot the transaction does not hold is left as it is. -/
def ImageSlot.release (t : TxnRef) (o : TxnOutcome) : ImageSlot → ImageSlot
  | .unknown => .unknown
  | .known c => .known c
  | .pending c v t' =>
    if t' = t then
      match o with
      | .success => .known v
      | .failure | .discard => ofCommitted c
      | .timeout => .unknown
    else .pending c v t'

/-- Every slot of the list released (R100 step 2). -/
def State.releaseSlots (t : TxnRef) (o : TxnOutcome) (slots : List (Fin 512)) (s : State) : State :=
  slots.foldl (fun s i => s.setImage i (s.image[i].release t o)) s

/-! ### Learning -/

/-- What a drift reports: the committed value before it, and whether a write was in flight (R85). -/
structure Drift where
  old : Option Int
  inFlight : Bool
  deriving DecidableEq, Repr

/-- The slot after a value is learned into it, and the drift where there is one (R83, R84). -/
def ImageSlot.learn (v : Int) : ImageSlot → ImageSlot × Option Drift
  | .unknown => (.known v, none)
  | .known c => if v = c then (.known c, none) else (.known v, some ⟨some c, false⟩)
  | .pending c p t => if v = p ∨ c = some v then (.pending c p t, none) else (.pending (some v) p t, some ⟨c, true⟩)

/-- The circumstances of R82 reduced to what R86 takes from them: the changeover envelope is in force for the station. -/
def State.changeoverInForce (s : State) (n : Fin 32) : Bool :=
  match (s.station n).state with
  | .service => true
  | .normal | .quarantined => (s.station n).config.member && s.window.changeoverEnvelope

def driftEvent (n : Fin 32) (k : Key) (r : ParamRecord) (d : Drift) (v : Int) (source : Mac) : Raised where
  kind := .drift
  natural := r.criticality
  station := some n
  key := some (k.area, k.index)
  valueA := d.old
  valueB := some v
  reason := if d.inFlight then some .writeInFlight else none
  source := some source

def breachEvent (n : Fin 32) (k : Key) (v bound : Int) (changeover : Bool) (source : Mac) : Raised where
  kind := .envelopeBreach
  natural := 7
  station := some n
  key := some (k.area, k.index)
  valueA := some v
  valueB := some bound
  reason := some (if changeover then .changeoverEnvelope else .runEnvelope)
  source := some source

def quarantinedEvent (n : Fin 32) (cause : Reason) : Raised where
  kind := .quarantined
  natural := 4
  station := some n
  reason := some cause

/-- A breach reported to the station table (R32). -/
def State.breachReport (n : Fin 32) (s : State) : State :=
  let e := s.station n
  if e.config.quarantineOnBreach ∧ e.state ≠ .quarantined then
    (s.setStationState n .quarantined).raise (quarantinedEvent n .breach)
  else s

/-- The bound of the envelope in force that `v` passed, where it lies outside (R86, R87). -/
def passedBound (r : ParamRecord) (changeover : Bool) (v : Int) : Option Int :=
  let lo := if changeover then r.chgLo else r.runLo
  let hi := if changeover then r.chgHi else r.runHi
  if v < lo then some lo else if hi < v then some hi else none

/-- The breach check (R86, R87). -/
def State.breachCheck (n : Fin 32) (k : Key) (r : ParamRecord) (changeover : Bool) (v : Int) (source : Mac)
    (s : State) : State :=
  match passedBound r changeover v with
  | none => s
  | some bound => (s.raise (breachEvent n k v bound changeover source)).breachReport n

/-- A read reply as the classifier offers it (R81): the values as unsigned numbers of the profile's value width, read in
the profile's byte order. -/
structure ReadOffer where
  station : Fin 32
  area : Fin 16
  first : Nat
  width : Nat
  values : List Nat
  source : Mac
  deriving DecidableEq, Repr

def ReadOffer.key (o : ReadOffer) (i : Nat) : Key := ⟨o.station, o.area, BitVec.ofNat 16 (o.first + i)⟩

/-- One value learned (R81, R83 to R86), and whether it was a drift. -/
def learnValue (o : ReadOffer) (changeover : Bool) (i raw : Nat) (s : State) : State × Bool :=
  let k := o.key i
  match lookup s.settings.activeBank k with
  | none => (s, false)
  | some (slot, r) =>
    if r.kind.width = o.width then
      let v := r.kind.interpret o.width raw
      match s.image[slot].learn v with
      | (after, none) => (s.setImage slot after, false)
      | (after, some d) =>
        ((((s.setImage slot after).countDrift o.station).raise (driftEvent o.station k r d v o.source)).breachCheck
          o.station k r changeover v o.source, true)
    else (s, false)

/-- The values of one reply in index order from position `i`, and the number of drifts (R81). -/
def learnValues (o : ReadOffer) (changeover : Bool) : List Nat → Nat → State → State × Nat
  | [], _, s => (s, 0)
  | raw :: rest, i, s =>
    let (s1, drifted) := learnValue o changeover i raw s
    let (s2, n) := learnValues o changeover rest (i + 1) s1
    (s2, if drifted then n + 1 else n)

/-- `count` drift reports on a station, one after the other (R82, R124). -/
def State.reportDrifts (n : Fin 32) : Nat → State → State
  | 0, s => s
  | count + 1, s => (s.report .drift (some n)).reportDrifts n count

/-- A read reply learned whole (R82): the circumstances stand as the image takes the reply, and the drift reports of a
member are handed to the window controller when the learning is complete. -/
def State.learnReply (o : ReadOffer) (s : State) : State :=
  let result := learnValues o (s.changeoverInForce o.station) o.values 0 s
  if (s.station o.station).config.member then result.1.reportDrifts o.station result.2 else result.1

/-! ### The image at a swap and at a start -/

/-- A slot at a swap (R53): kept where the old and new records have equal keys. -/
def carrySlot (old new : Option ParamRecord) (v : ImageSlot) : ImageSlot :=
  match old, new with
  | some a, some b => if a.key = b.key then v else .unknown
  | some _, none | none, some _ | none, none => .unknown

/-- The swap (R52, R53). -/
def State.swap (s : State) : State :=
  { s with
    settings := { s.settings with active := s.settings.active.other, stagedReady := false }
    image := tabulate fun i => carrySlot s.settings.activeBank[i] s.settings.stagedBank[i] s.image[i] }

end Sys2Proof.Machine
end

