-- ==== Sys2Proof/Machine/Transactions.lean ====
section
/-! DEFINITION. The transaction table (chapter 6): creation, SENT, reply matching, the endings and their reports. -/

namespace Sys2Proof.Machine

/-- STATION-REJECTED (R105). The key is that of the record in the first slot of the slot list. -/
def rejectedEvent (t : Txn) (k : Option Key) (status : Octet) : Raised where
  kind := .stationRejected
  natural := 3
  station := some t.ref.station
  key := k.map fun k => (k.area, k.index)
  valueA := some t.ref.tag.toNat
  valueB := some status.toNat
  reason := some (.mode t.mode)
  source := some t.requester

/-- REPLY-TIMEOUT (R105). -/
def timeoutEvent (t : Txn) (k : Option Key) : Raised where
  kind := .replyTimeout
  natural := 4
  station := some t.ref.station
  key := k.map fun k => (k.area, k.index)
  valueA := some t.ref.tag.toNat
  reason := some (.mode t.mode)
  source := some t.requester

/-- The key of the record in the transaction's first slot (R105). -/
def firstKey (s : State) (t : Txn) : Option Key :=
  match t.slots with
  | [] => none
  | i :: _ => s.settings.activeBank[i].map (·.key)

/-- The event of an ending, where it raises one (R100 step 3). -/
def endingEvent (s : State) (t : Txn) (o : TxnOutcome) (status : Octet) : Option Raised :=
  match o with
  | .success | .discard => none
  | .failure => some (rejectedEvent t (firstKey s t) status)
  | .timeout => some (timeoutEvent t (firstKey s t))

def State.removeTxn (r : TxnRef) (s : State) : State := { s with txns := s.txns.filter fun t => decide (t.ref ≠ r) }

/-- Steps 1 to 3 of an ending (R100): removal, release, event. -/
def State.endQuietly (t : Txn) (o : TxnOutcome) (status : Octet) (s : State) : State :=
  let s1 := (s.removeTxn t.ref).releaseSlots t.ref o t.slots
  match endingEvent s1 t o status with
  | none => s1
  | some e => s1.raise e

/-- An ending (R100): step 4 reports that of a CHANGE-mode transaction to the window controller. -/
def State.endTxn (t : Txn) (o : TxnOutcome) (status : Octet) (s : State) : State :=
  let s1 := s.endQuietly t o status
  match t.mode with
  | .run => s1
  | .change => s1.reportEnding o t.ref.station

/-- The SENT transaction of a station entry and tag (R99). -/
def findSent (txns : List Txn) (r : TxnRef) : Option Txn :=
  txns.find? fun t => decide (t.ref = r) && match t.state with
    | .sent _ => true
    | .queued => false

/-- A write reply offered to the table (R99, R101, R102, R107). -/
def State.offerWriteReply (r : TxnRef) (success : Bool) (status : Octet) (s : State) : State :=
  match findSent s.txns r with
  | none => s.countUnmatched
  | some t => s.endTxn t (if success then .success else .failure) status

/-- The deadline a transaction of the station gets at completion (R97). -/
def State.replyDeadline (s : State) (n : Fin 32) : Nat :=
  s.now + Config.timeoutUnit * s.settings.profiles[(s.station n).config.profile].replyTimeout.toNat

/-- The transaction of a marked frame becomes SENT (R97). -/
def Txn.complete (r : TxnRef) (deadline : Nat) (t : Txn) : Txn :=
  match t.state with
  | .queued => if t.ref = r then { t with state := .sent deadline } else t
  | .sent _ => t

/-- The completion of a marked frame's transmission is reported to the table (R97). -/
def State.txnSent (r : TxnRef) (s : State) : State :=
  { s with txns := s.txns.map fun t => t.complete r (s.replyDeadline r.station) }

/-- The QUEUED transactions, oldest first. -/
def queuedTxns (s : State) : List Txn := s.txns.filter fun t => decide (t.state = .queued)

/-- The discards of one loss of link on port L (R104): each QUEUED transaction in the table's order, then the CHANGE-mode
endings reported together, DRAINING being examined once. -/
def State.discardQueued (s : State) : State :=
  let gone := queuedTxns s
  let s1 := gone.foldl (fun s t => s.endQuietly t .discard 0) s
  if gone.any fun t => decide (t.mode = .change) then s1.examineDraining else s1

/-- The transaction whose deadline has been reached (R103). -/
def dueTxn (s : State) (r : TxnRef) : Option Txn :=
  match findSent s.txns r with
  | some t => match t.state with
    | .sent d => if d ≤ s.now then some t else none
    | .queued => none
  | none => none

end Sys2Proof.Machine
end

