-- ==== Sys2Proof/Machine/Vetting.lean ====
section
/-! DEFINITION. The vetting unit (chapter 4): the vetting computation, the frame verdict, rewriting and admission. -/

namespace Sys2Proof.Machine

/-! ### The vetting computation (R59 to R64) -/

/-- The bounds of the envelope in force (R58). -/
def ParamRecord.lo (r : ParamRecord) : TxnMode → Int
  | .run => r.runLo
  | .change => r.chgLo

def ParamRecord.hi (r : ParamRecord) : TxnMode → Int
  | .run => r.runHi
  | .change => r.chgHi

/-- Stage 1, the envelope clamp (R61). -/
def clampTo (lo hi v : Int) : Int := if v < lo then lo else if hi < v then hi else v

/-- Stage 2, quantise (R62). -/
def quantise (r : ParamRecord) (ref : Option Int) (v : Int) : Int :=
  let q : Int := r.quantum
  let d := v - r.chgLo
  let rem := d % q
  let g1 := r.chgLo + d / q * q
  let g2 := g1 + q
  if 2 * rem < q then g1
  else if q < 2 * rem then g2
  else match ref with
    | some c => if (g2 - c).natAbs < (g1 - c).natAbs then g2 else g1
    | none => g1

/-- The highest grid point not above ref + step_up (R63). -/
def reachTop (r : ParamRecord) (ref : Int) : Int :=
  r.chgLo + (ref + r.stepUp - r.chgLo) / (r.quantum : Int) * r.quantum

/-- The lowest grid point not below ref − step_down (R63); the ceiling of a quotient is the floor of its negation, negated. -/
def reachBottom (r : ParamRecord) (ref : Int) : Int :=
  r.chgLo + -(-(ref - r.stepDown - r.chgLo) / (r.quantum : Int)) * r.quantum

/-- Stage 3, the step limit (R63): the value, or the reason of the refusal. -/
def stepLimit (r : ParamRecord) (mode : TxnMode) (ref : Option Int) (v : Int) : Except Reason Int :=
  if mode = .run ∧ r.stepLimits = true then
    match ref with
    | none => .error .noReference
    | some c =>
      let bottom := max (r.lo mode) (reachBottom r c)
      let top := min (r.hi mode) (reachTop r c)
      if top < bottom then .error .outOfReach else .ok (clampTo bottom top v)
  else .ok v

/-- The reason of the first stage whose output differs from its input (R64). -/
def alteringStage (r0 v1 v2 v3 : Int) : Option Reason :=
  if v1 ≠ r0 then some .outsideEnvelope
  else if v2 ≠ v1 then some .offGrid
  else if v3 ≠ v2 then some .stepExceeded
  else none

/-- The outcome of a listed value (R64). -/
inductive ValueOutcome where
  /-- ADMIT: the value passes as written. -/
  | unaltered (v : Int)
  /-- ADMIT-CLAMPED with v3 and the altering stage. -/
  | clamped (v : Int) (stage : Reason)
  /-- Refused with a reason; REWRITE-FORBIDDEN carries its stage, and the stage reasons carry v3. -/
  | refused (reason : Reason) (stage : Option Reason) (v3 : Option Int)
  deriving DecidableEq, Repr

/-- The vetting computation of requested value `v` (R59 to R64). -/
def vetValue (r : ParamRecord) (mode : TxnMode) (ref : Option Int) (rewrite : Bool) (v : Int) : ValueOutcome :=
  let v1 := clampTo (r.lo mode) (r.hi mode) v
  let v2 := quantise r ref v1
  match stepLimit r mode ref v2 with
  | .error why => .refused why none none
  | .ok v3 =>
    if v3 = v then .unaltered v
    else match alteringStage v v1 v2 v3 with
      | none => .unaltered v
      | some stage =>
        match r.policy with
        | .clamp => if rewrite then .clamped v3 stage else .refused .rewriteForbidden (some stage) (some v3)
        | .refuse => .refused stage none (some v3)

/-! ### The frame verdict (R65 to R70) -/

/-- A WRITE request in the vetting unit's hands (R57). `raws` are the values as unsigned numbers of the profile's value
width, in the profile's byte order; `frame` is the frame as received. -/
structure WriteRequest where
  profile : Profile
  station : Fin 32
  tag : Word16
  area : Fin 16
  first : Nat
  raws : List Nat
  source : Mac
  frame : List Octet
  deriving DecidableEq, Repr

def WriteRequest.key (w : WriteRequest) (i : Nat) : Key := ⟨w.station, w.area, BitVec.ofNat 16 (w.first + i)⟩

/-- The reference of a value (R60). -/
def ImageSlot.reference : ImageSlot → Option Int
  | .unknown => none
  | .known c => some c
  | .pending _ v _ => some v

/-- The vetting mode (R58). -/
def vettingMode (s : State) (n : Fin 32) : TxnMode :=
  match (s.station n).state with
  | .service => .change
  | .normal => if s.window.isOpen && (s.station n).config.member then .change else .run
  | .quarantined => .run

/-- A refused frame: what WRITE-REFUSED carries of it (R74). -/
structure Refused where
  reason : Reason
  stage : Option Reason
  level : Nat
  key : Option (Fin 16 × Word16)
  valueA : Option Int
  valueB : Option Int
  deriving DecidableEq, Repr

/-- An admitted listed value: its position in the frame, its slot, the requested value, v3 and, where the value was
clamped, the altering stage. -/
structure Listed where
  position : Nat
  slot : Fin 512
  kind : Kind
  requested : Int
  value : Int
  stage : Option Reason
  deriving DecidableEq, Repr

/-- A refusal at step 4: it names the key of the failing value (R74). -/
def refuseValue (k : Key) (reason : Reason) (stage : Option Reason) (level : Nat) (a b : Option Int) : Refused where
  reason := reason
  stage := stage
  level := level
  key := some (k.area, k.index)
  valueA := a
  valueB := b

/-- A refusal where no record was involved at steps 3, 5 and 6 (R74). -/
def refuseFrame (reason : Reason) : Refused where
  reason := reason
  stage := none
  level := 3
  key := none
  valueA := none
  valueB := none

/-- An unlisted value (R67). -/
def unlistedAdmitted (v : UnlistedVerdict) (mode : TxnMode) : Bool :=
  match v, mode with
  | .pass, _ => true
  | .window, .change => true
  | .window, .run => false
  | .refuse, _ => false

/-- One value of the frame (R67, R68): a refusal, or the admitted value where it is listed. -/
def vetItem (s : State) (w : WriteRequest) (mode : TxnMode) (i raw : Nat) : Except Refused (Option Listed) :=
  let k := w.key i
  match lookup s.settings.activeBank k with
  | none =>
    if unlistedAdmitted (s.station w.station).policies[w.area].unlisted mode then .ok none
    else .error (refuseValue k .areaClosed none 3 (some raw) none)
  | some (slot, r) =>
    match s.image[slot] with
    | .pending _ _ _ => .error (refuseValue k .parameterBusy none r.criticality (some raw) none)
    | .unknown | .known _ =>
      if r.kind.width ≠ w.profile.valueWidth.toNat then
        .error (refuseValue k .malformed none r.criticality (some raw) none)
      else
        let v := r.kind.interpret w.profile.valueWidth.toNat raw
        match vetValue r mode s.image[slot].reference w.profile.rewritePermitted v with
        | .unaltered v3 => .ok (some ⟨i, slot, r.kind, v, v3, none⟩)
        | .clamped v3 stage => .ok (some ⟨i, slot, r.kind, v, v3, some stage⟩)
        | .refused reason stage v3 => .error (refuseValue k reason stage r.criticality (some v) v3)

/-- Step 4: the values from position `i` on, in index order; the first refusal ends it. -/
def vetItems (s : State) (w : WriteRequest) (mode : TxnMode) : List Nat → Nat → Except Refused (List Listed)
  | [], _ => .ok []
  | raw :: rest, i =>
    match vetItem s w mode i raw with
    | .error e => .error e
    | .ok item =>
      match vetItems s w mode rest (i + 1) with
      | .error e => .error e
      | .ok items => .ok (match item with
        | none => items
        | some l => l :: items)

/-- The ordinary queue of port L has room (R70). -/
def lineRoom (s : State) : Bool := s.portL.accepts .ordinary

/-- Step 5, the tracking checks of a frame with a listed value (R69). -/
def trackingCheck (s : State) (r : TxnRef) (listed : List Listed) : Option Reason :=
  match listed with
  | [] => none
  | _ :: _ =>
    if s.txns.any fun t => decide (t.ref = r) then some .tagInUse
    else if Config.maxTransactions ≤ s.txns.length then some .tableFull
    else none

/-- An admitted frame: its mode and its listed values (R71, R72). -/
structure Admission where
  mode : TxnMode
  listed : List Listed
  deriving DecidableEq, Repr

/-- Steps 3 to 6 of the frame verdict, in their order (R65). -/
def frameVerdict (s : State) (w : WriteRequest) : Except Refused Admission :=
  if (s.station w.station).state = .quarantined then .error (refuseFrame .stationQuarantined)
  else
    let mode := vettingMode s w.station
    match vetItems s w mode w.raws 0 with
    | .error e => .error e
    | .ok listed =>
      match trackingCheck s ⟨w.station, w.tag⟩ listed with
      | some why => .error (refuseFrame why)
      | none => if lineRoom s then .ok ⟨mode, listed⟩ else .error (refuseFrame .egressFull)

/-! ### Admission (R71 to R75) -/

/-- The octets of a value in the profile's byte order (R71). -/
def valueOctets (p : Profile) (v : Int) : List Octet :=
  let n := p.valueWidth.toNat
  match p.byteOrder with
  | some .little => (beOctetsInt n v).reverse
  | some .big | none => beOctetsInt n v

/-- The position in the frame of the value at position `i` (R6). -/
def valueOffset (p : Profile) (frame : List Octet) (i : Nat) : Nat :=
  headerLength frame + p.firstValueOffset.toNat + i * p.valueWidth.toNat

/-- A clamped value written into the frame's octets. -/
def rewriteValue (p : Profile) (frame : List Octet) (body : List Octet) (l : Listed) : List Octet :=
  match l.stage with
  | none => body
  | some _ => overwrite body (valueOffset p frame l.position) (valueOctets p l.value)

/-- The frame as forwarded (R71): with at least one clamped value the FCS is recomputed, else the frame is as received. -/
def forwardedOctets (w : WriteRequest) (listed : List Listed) : List Octet :=
  if listed.any (·.stage.isSome) then
    withFcs (listed.foldl (rewriteValue w.profile w.frame) (frameBody w.frame))
  else w.frame

/-- The transaction of a tracked frame (R72). -/
def newTxn (w : WriteRequest) (a : Admission) : Txn where
  ref := ⟨w.station, w.tag⟩
  requester := w.source
  mode := a.mode
  slots := a.listed.map (·.slot)
  state := .queued

/-- The slots of the new transaction become PENDING (R72, R79). -/
def State.holdSlots (t : TxnRef) (listed : List Listed) (s : State) : State :=
  listed.foldl (fun s l => s.setImage l.slot (s.image[l.slot].hold l.value t)) s

/-- The transaction is created with its slots, when the frame is tracked (R69, R72). -/
def State.track (w : WriteRequest) (a : Admission) (s : State) : State :=
  match a.listed with
  | [] => s
  | _ :: _ => ({ s with txns := s.txns ++ [newTxn w a] }).holdSlots ⟨w.station, w.tag⟩ a.listed

/-- The transaction mark of the forwarded frame (R96). -/
def admissionMark (w : WriteRequest) (a : Admission) : Option TxnRef :=
  match a.listed with
  | [] => none
  | _ :: _ => some ⟨w.station, w.tag⟩

/-- WRITE-CLAMPED of the first clamped value (R75). -/
def clampedEvent (w : WriteRequest) (l : Listed) : Raised where
  kind := .writeClamped
  natural := 2
  station := some w.station
  key := some (w.area, (w.key l.position).index)
  valueA := some l.requested
  valueB := some l.value
  reason := l.stage
  source := some w.source

/-- WRITE-REFUSED (R74). -/
def refusedEvent (w : WriteRequest) (r : Refused) : Raised where
  kind := .writeRefused
  natural := r.level
  station := some w.station
  key := r.key
  valueA := r.valueA
  valueB := r.valueB
  reason := some r.reason
  qualifier := r.stage
  source := some w.source

/-- An admitted frame (R71 to R73, R75): it enters the ordinary queue of L in the room found, tracked where it has a
listed value. -/
def State.admitWrite (w : WriteRequest) (a : Admission) (s : State) : State :=
  let s1 := (s.track w a).handOver .L .ordinary (forwardedFrame (forwardedOctets w a.listed) (admissionMark w a))
  let clamped := a.listed.find? (·.stage.isSome)
  let s2 := s1.countAdmitted w.station clamped.isSome
  match clamped with
  | none => s2
  | some l => s2.raise (clampedEvent w l)

/-- A WRITE request in the vetting unit (R65). -/
def State.vet (w : WriteRequest) (s : State) : State :=
  match frameVerdict s w with
  | .ok a => s.admitWrite w a
  | .error r => (s.countRefused w.station).raise (refusedEvent w r)

end Sys2Proof.Machine
end

