-- ==== Sys2Proof/Machine/Classifier.lean ====
section
/-! DEFINITION. The frame classifier (chapter 1): arrival checks, profile matching, class and role, malformed checks,
station identification, and the routing of what it finds; the gating of chapter 2 (R34, R35). -/

namespace Sys2Proof.Machine

/-! ### Fields of a payload -/

/-- A run of octets as an unsigned number in the profile's byte order (R6). -/
def Profile.number (p : Profile) (o : List Octet) : Nat :=
  match p.byteOrder with
  | some .little => leNat o
  | some .big | none => beNat o

/-- The field of `n` octets at an offset of the payload, in the profile's byte order. -/
def Profile.field (p : Profile) (pl : List Octet) (offset : Word16) (n : Nat) : Nat :=
  p.number (slice pl offset.toNat n)

/-- The payload holds the whole field (R14). -/
def hasField (pl : List Octet) (offset : Word16) (n : Nat) : Bool := decide (offset.toNat + n ≤ pl.length)

/-- The tag of a frame (R6); a profile without a tag field gives 0, and R7 keeps such a profile from mapping writes. -/
def Profile.tag (p : Profile) (pl : List Octet) : Word16 :=
  match p.tagField with
  | some t => BitVec.ofNat 16 (p.field pl t.offset t.width.toNat)
  | none => 0

/-- The payload holds the whole tag field. -/
def Profile.hasTag (p : Profile) (pl : List Octet) : Bool :=
  match p.tagField with
  | some t => hasField pl t.offset t.width.toNat
  | none => false

def Profile.area (p : Profile) (pl : List Octet) : Nat := (octetAt pl p.areaOffset.toNat).toNat
def Profile.index (p : Profile) (pl : List Octet) : Nat := p.field pl p.indexOffset 2
def Profile.count (p : Profile) (pl : List Octet) : Nat := (octetAt pl p.countOffset.toNat).toNat
def Profile.status (p : Profile) (pl : List Octet) : Octet := octetAt pl p.statusOffset.toNat

/-- The values of a write or a read reply, as unsigned numbers of the value width (R6). -/
def Profile.values (p : Profile) (pl : List Octet) : List Nat :=
  (List.range (p.count pl)).map fun i =>
    p.number (slice pl (p.firstValueOffset.toNat + i * p.valueWidth.toNat) p.valueWidth.toNat)

/-! ### Matching, class and role (R9, R11) -/

/-- The frame matches the profile (R9). -/
def Profile.matchesFrame (p : Profile) (type : Word16) (pl : List Octet) : Bool :=
  p.inUse && decide (p.frameType = type) &&
    match p.discriminator with
    | none => true
    | some d => hasField pl d.offset 1 && decide (octetAt pl d.offset.toNat = d.value)

/-- The first in-use profile the frame matches, in number order (R9). -/
def matchProfile (st : Settings) (type : Word16) (pl : List Octet) : Option (Fin 4) :=
  (List.finRange 4).find? fun i => st.profiles[i].matchesFrame type pl

/-- Class and role by function code; OTHER with role REQUEST where the map has no entry (R11). -/
def Profile.classify (p : Profile) (code : Octet) : FrameClass × Role :=
  match p.functionMap.find? fun e => decide (e.code = code) with
  | some e => (e.cls, e.role)
  | none => (.other, .request)

/-! ### Malformed checks (R13, R14) -/

/-- The greatest count of the class and role (R14). -/
def countLimit : FrameClass → Role → Nat
  | .write, .request => 8
  | .read, _ => 64
  | .write, .reply | .cyclic, _ | .control, _ | .program, _ | .other, _ => 0

/-- The header fields named for the class and role are in the payload (R13, R14). -/
def headerPresent (p : Profile) (pl : List Octet) : FrameClass → Role → Bool
  | .write, .request =>
    p.hasTag pl && hasField pl p.areaOffset 1 && hasField pl p.indexOffset 2 && hasField pl p.countOffset 1
  | .read, .request => hasField pl p.areaOffset 1 && hasField pl p.indexOffset 2 && hasField pl p.countOffset 1
  | .read, .reply =>
    hasField pl p.statusOffset 1 && hasField pl p.areaOffset 1 && hasField pl p.indexOffset 2 &&
      hasField pl p.countOffset 1
  | .write, .reply => p.hasTag pl && hasField pl p.statusOffset 1
  | .cyclic, _ | .control, _ | .program, _ | .other, _ => true

/-- The class and role address indices (R13): area, count and index range are checked. -/
def addressesIndices : FrameClass → Role → Bool
  | .write, .request | .read, _ => true
  | .write, .reply | .cyclic, _ | .control, _ | .program, _ | .other, _ => false

/-- The class and role carry values (R13). -/
def carriesValues : FrameClass → Role → Bool
  | .write, .request | .read, .reply => true
  | .write, .reply | .read, .request | .cyclic, _ | .control, _ | .program, _ | .other, _ => false

/-- The first check an examined frame fails names the malformation cause; `none` is well-formed (R13, R14). -/
def malformation (p : Profile) (frameLength : Nat) (pl : List Octet) (c : FrameClass) (r : Role) : Option Reason :=
  if frameLength < p.minLength.toNat ∨ p.maxLength.toNat < frameLength then some .length
  else if headerPresent p pl c r = false then some .truncated
  else if addressesIndices c r = false then none
  else if 15 < p.area pl then some .area
  else if p.count pl = 0 ∨ countLimit c r < p.count pl then some .count
  else if 65535 < p.index pl + p.count pl - 1 then some .indexRange
  else if carriesValues c r ∧ pl.length < p.firstValueOffset.toNat + p.count pl * p.valueWidth.toNat then
    some .truncated
  else none

/-! ### Station identification (R16) -/

/-- Step 1: the ADDRESS entry of the profile with the identifying address. -/
def byAddress (st : Settings) (prof : Fin 4) (a : Mac) : Option (Fin 32) :=
  (List.finRange 32).find? fun n =>
    let e := st.stations[n]
    e.inUse && decide (e.config.profile = prof) && decide (e.config.mode = .address) && decide (e.config.address = a)

/-- Step 2: the EMBEDDED entry of the profile with the gateway address and the station number. -/
def byNumber (st : Settings) (prof : Fin 4) (a : Mac) (number : Octet) : Option (Fin 32) :=
  (List.finRange 32).find? fun n =>
    let e := st.stations[n]
    e.inUse && decide (e.config.profile = prof) && decide (e.config.mode = .embedded) &&
      decide (e.config.address = a) && decide (e.config.embedded = number)

/-- The station entry of a frame with the identifying address, if any (R16). -/
def identify (st : Settings) (prof : Fin 4) (a : Mac) (pl : List Octet) : Option (Fin 32) :=
  if isGroup a then none
  else match byAddress st prof a with
    | some n => some n
    | none =>
      match st.profiles[prof].stationField with
      | some offset => if hasField pl offset 1 then byNumber st prof a (octetAt pl offset.toNat) else none
      | none => none

/-- The class is identified in its direction (chapter 1, *Station identification*). -/
def identifiedClass : Port → FrameClass → Bool
  | .P, .read | .P, .write | .P, .control | .P, .program => true
  | .P, .cyclic | .P, .other => false
  | .L, .read | .L, .write => true
  | .L, .control | .L, .program | .L, .cyclic | .L, .other => false

/-! ### What an arriving frame is -/

inductive Arrival where
  | fcsError | lengthError | flowControl
  | management | stray
  | foreign
  /-- Passed unexamined (R12). -/
  | unexamined (c : FrameClass)
  /-- Malformed (R15); no class where the function code is missing (R11). -/
  | malformed (c : Option FrameClass) (cause : Reason)
  /-- Well-formed, of a class that is not identified in its direction (R18, R19). -/
  | plain (c : FrameClass)
  /-- Well-formed, the station unknown (R17). -/
  | unknownStation (c : FrameClass)
  /-- Well-formed and identified (R18, R19). -/
  | identified (c : FrameClass) (profile : Fin 4) (station : Fin 32)
  deriving DecidableEq, Repr

/-- A frame of a matched profile (R11 to R16). -/
def classifyMatched (st : Settings) (port : Port) (f : List Octet) (prof : Fin 4) : Arrival :=
  let p := st.profiles[prof]
  let pl := payload f
  if hasField pl p.functionOffset 1 then
    let (c, r) := p.classify (octetAt pl p.functionOffset.toNat)
    let examined := match port, r with
      | .P, .request | .L, .reply => true
      | .P, .reply | .L, .request => false
    if examined then
      match malformation p f.length pl c r with
      | some cause => .malformed (some c) cause
      | none =>
        if identifiedClass port c then
          let address := match port with
            | .P => frameDestination f
            | .L => frameSource f
          match identify st prof address pl with
          | some n => .identified c prof n
          | none => .unknownStation c
        else .plain c
    else .unexamined c
  else .malformed none .truncated

/-- A frame that passes the arrival checks (R5, R9). -/
def classifyAccepted (st : Settings) (own : Mac) (port : Port) (f : List Octet) : Arrival :=
  if frameDestination f = own then
    if frameType f = st.managementType then .management else .stray
  else match matchProfile st (frameType f) (payload f) with
    | none => .foreign
    | some prof => classifyMatched st port f prof

/-- The arrival checks, in the order of the table of R2, then the classification. -/
def classifyArrival (st : Settings) (own : Mac) (port : Port) (f : List Octet) : Arrival :=
  if fcsGood f = false then .fcsError
  else if f.length < Config.minFrameLength ∨ Config.maxFrameLength < f.length then .lengthError
  else if frameType f = Config.flowControlType then .flowControl
  else classifyAccepted st own port f

/-! ### Routing -/

/-- CYCLIC frames go to the express queue, frames of every other class to the ordinary queue (R133). -/
def classQueue : FrameClass → QueueKind
  | .cyclic => .express
  | .read | .write | .control | .program | .other => .ordinary

def malformedEvent (source : Mac) (cause : Reason) : Raised where
  kind := .malformed
  natural := 3
  reason := some cause
  source := some source

def unknownStationEvent (source destination : Mac) (c : FrameClass) : Raised where
  kind := .stationUnknown
  natural := 5
  valueA := some destination.toNat
  reason := some (.frameClass c)
  source := some source

def readRefusedEvent (n : Fin 32) (a : Fin 16) (first : Word16) (count : Nat) (source : Mac) : Raised where
  kind := .readRefused
  natural := 2
  station := some n
  key := some (a, first)
  valueA := some count
  source := some source

def controlRefusedEvent (n : Fin 32) (reason : Reason) (source : Mac) : Raised where
  kind := .controlRefused
  natural := 4
  station := some n
  reason := some reason
  source := some source

def programRefusedEvent (n : Fin 32) (reason : Reason) (source : Mac) : Raised where
  kind := .programRefused
  natural := 5
  station := some n
  reason := some reason
  source := some source

/-- The area the malformed checks have held to 0..15, as an index. -/
def Profile.areaIndex (p : Profile) (pl : List Octet) : Fin 16 := ⟨p.area pl % 16, by omega⟩

/-- A malformed frame (R15). -/
def State.routeMalformed (port : Port) (f : List Octet) (c : Option FrameClass) (cause : Reason) (s : State) : State :=
  let s1 := s.countMalformed
  match port with
  | .P => s1.raise (malformedEvent (frameSource f) cause)
  | .L => s1.forward .P (match c with
    | some c => classQueue c
    | none => .ordinary) f

/-- A frame whose station is unknown (R17). -/
def State.routeUnknown (port : Port) (f : List Octet) (c : FrameClass) (s : State) : State :=
  match port, c with
  | .P, .write | .P, .control | .P, .program =>
    s.raise (unknownStationEvent (frameSource f) (frameDestination f) c)
  | .P, .read => s.forward .L .ordinary f
  | .P, .cyclic | .P, .other => s.forward .L (classQueue c) f
  | .L, _ => s.forward .P (classQueue c) f

/-- The read verdict (R35). -/
def State.readVerdict (p : Profile) (n : Fin 32) (f : List Octet) (s : State) : State :=
  let pl := payload f
  match (s.station n).policies[p.areaIndex pl].read with
  | .pass => s.forward .L .ordinary f
  | .refuse =>
    s.raise (readRefusedEvent n (p.areaIndex pl) (BitVec.ofNat 16 (p.index pl)) (p.count pl) (frameSource f))

/-- Why a CONTROL request is refused, if it is (R34). -/
def controlRefusal (s : State) (n : Fin 32) : Option Reason :=
  match (s.station n).state with
  | .normal => if s.window.isOpen && (s.station n).config.member then none else some .notInWindow
  | .service => none
  | .quarantined => some .quarantined

/-- Why a PROGRAM request is refused, if it is (R34). -/
def programRefusal (s : State) (n : Fin 32) : Option Reason :=
  match (s.station n).state with
  | .normal => some .notInService
  | .service => none
  | .quarantined => some .quarantined

/-- CONTROL gating (R34). -/
def State.gateControl (n : Fin 32) (f : List Octet) (s : State) : State :=
  match controlRefusal s n with
  | none => s.forward .L .ordinary f
  | some why => s.raise (controlRefusedEvent n why (frameSource f))

/-- PROGRAM gating (R34). -/
def State.gateProgram (n : Fin 32) (f : List Octet) (s : State) : State :=
  match programRefusal s n with
  | none => s.forward .L .ordinary f
  | some why => s.raise (programRefusedEvent n why (frameSource f))

/-- The WRITE request the classifier hands to the vetting unit (R57). -/
def writeRequestOf (p : Profile) (n : Fin 32) (f : List Octet) : WriteRequest where
  profile := p
  station := n
  tag := p.tag (payload f)
  area := p.areaIndex (payload f)
  first := p.index (payload f)
  raws := p.values (payload f)
  source := frameSource f
  frame := f

/-- The read reply the classifier offers to the value image (R81). -/
def readOfferOf (p : Profile) (n : Fin 32) (f : List Octet) : ReadOffer where
  station := n
  area := p.areaIndex (payload f)
  first := p.index (payload f)
  width := p.valueWidth.toNat
  values := p.values (payload f)
  source := frameSource f

/-- A well-formed request of an identified station, received on port P (R18). -/
def State.routeRequest (p : Profile) (n : Fin 32) (c : FrameClass) (f : List Octet) (s : State) : State :=
  match c with
  | .write => s.vet (writeRequestOf p n f)
  | .read => s.readVerdict p n f
  | .control => s.gateControl n f
  | .program => s.gateProgram n f
  | .cyclic | .other => s.forward .L (classQueue c) f

/-- What a reply of an identified station is offered to (R19). -/
def State.offerReply (p : Profile) (n : Fin 32) (c : FrameClass) (f : List Octet) (s : State) : State :=
  let pl := payload f
  match c with
  | .write => s.offerWriteReply ⟨n, p.tag pl⟩ (decide (p.status pl = p.successStatus)) (p.status pl)
  | .read => if p.status pl = p.successStatus then s.learnReply (readOfferOf p n f) else s
  | .cyclic | .control | .program | .other => s

/-- A well-formed reply of an identified station, received on port L: it is offered, then forwarded (R19, R134). -/
def State.routeReply (p : Profile) (n : Fin 32) (c : FrameClass) (f : List Octet) (s : State) : State :=
  (s.offerReply p n c f).forward .P (classQueue c) f

/-- A foreign frame (R10). -/
def State.routeForeign (port : Port) (f : List Octet) (s : State) : State :=
  match (s.settings.port port).foreign with
  | .pass => s.forward port.other .ordinary f
  | .drop => s.countForeignDrop port

/-- Everything an arriving frame brings about but the taking of a management request. -/
def State.routeArrival (port : Port) (f : List Octet) (a : Arrival) (s : State) : State :=
  match a with
  | .fcsError => s.countFcsError port
  | .lengthError => s.countLengthError port
  | .flowControl => s
  | .management => s
  | .stray => s.countStray port
  | .foreign => s.routeForeign port f
  | .unexamined c => s.forward port.other (classQueue c) f
  | .malformed c cause => s.routeMalformed port f c cause
  | .plain c => s.forward port.other (classQueue c) f
  | .unknownStation c => s.routeUnknown port f c
  | .identified c prof n =>
    match port with
    | .P => s.routeRequest s.settings.profiles[prof] n c f
    | .L => s.routeReply s.settings.profiles[prof] n c f

end Sys2Proof.Machine
end

