-- ==== Sys2Proof/Machine/Starts.lean ====
section
/-! DEFINITION. The settings store and the starts (chapter 11): what a save copies, the cold start, the warm start, the
end of the settings load, RESET and the loss of the supply. -/

namespace Sys2Proof.Machine

/-- A state as the store records and reloads it: SERVICE as NORMAL (R23, R171). -/
def StationState.stored : StationState → StationState
  | .service => .normal
  | .normal => .normal
  | .quarantined => .quarantined

/-- The station entries as stored (R171), and as a start loads them (R23). -/
def storedStations (st : Vector StationEntry 32) : Vector StationEntry 32 :=
  tabulate fun n =>
    let e := st[n]
    { e with state := e.state.stored }

/-- The copy of the working settings a save takes (R171, R172). -/
def Settings.stored (st : Settings) : Settings := { st with stations := storedStations st.stations }

/-- The working settings a start takes: the stored settings from a valid store, else the defaults (R174, R175, R176). -/
def Store.load (st : Store) : Settings := if st.valid then st.contents.stored else defaultSettings

/-- The store without its validity mark (R172). -/
def Store.invalidated (st : Store) : Store := { st with mark := false }

/-- The store after a save whose verify succeeded (R173). -/
def Store.written (copy : Settings) : Store where
  mark := true
  checkAgrees := true
  contents := copy

/-- A state with nothing in it but what no start changes: the pins, the identity, the store and the waiting commands;
everything else as a cold start clears it (R175 steps 1, 3 and 4), with working settings `st`. -/
def State.cleared (phase : Phase) (st : Settings) (s : State) : State where
  phase := phase
  now := 0
  keyA := s.keyA
  keyB := s.keyB
  lstop := s.lstop
  alarm := false
  trip := false
  pulseEnd := none
  identity := s.identity
  settings := st
  store := s.store
  save := .idle
  restartPending := false
  portP := freshPort s.portP.phyUp
  portL := freshPort s.portL.phyUp
  malformed := 0
  unmatched := 0
  counters := Vector.replicate 32 zeroStationCounters
  image := emptyImage
  txns := []
  window := .shut
  key := ⟨.run, none⟩
  lineIn := ⟨.running, none⟩
  events := []
  lost := 0
  pending := s.pending

/-- Power-up or the release of RESET: steps 1 to 3 of the cold start and the window of step 4 (R175). -/
def State.beginColdStart (s : State) : State := s.cleared .loadingCold s.store.load

/-- RESET asserted: the cold start begins (R175). The event queue is emptied, the lost count is 0, the outputs are inactive,
a running save and an accepted RESTART are abandoned (R177). With the start's beginning go the queues and whatever is in
transmission (R141), the transactions (R94), the image (R92) and the window (R118). -/
def State.holdReset (s : State) : State :=
  { s with
    phase := .resetHeld
    events := []
    lost := 0
    alarm := false
    trip := false
    pulseEnd := none
    save := .idle
    restartPending := false
    portP := s.portP.emptied
    portL := s.portL.emptied
    image := emptyImage
    txns := []
    window := .shut }

/-- The supply is lost (R177): all working state is lost, and a running save leaves the store without its mark, which it
has lacked since the save was accepted (R172). -/
def State.losePower (s : State) : State := s.cleared .off defaultSettings

/-- The warm start begins: steps 1 to 3 and the window of step 4 (R176). The table lock is kept (R163). -/
def State.beginWarmStart (s : State) : State :=
  ({ s with
    phase := .loadingWarm
    settings := { s.store.load with lock := s.settings.lock }
    save := .idle
    restartPending := false
    portP := s.portP.emptied
    portL := s.portL.emptied
    image := emptyImage
    txns := []
    window := .shut }).reAlarm

def storeInvalidEvent : Raised where
  kind := .storeInvalid
  natural := 7

/-- The inputs are sampled and taken at once, with no candidate, and each link state is what its PHY reports
(R117, R175 steps 4 and 6). -/
def State.sampleInputs (s : State) : State :=
  { s with
    phase := .running
    key := ⟨contactCode s.keyA s.keyB, none⟩
    lineIn := ⟨lineOf s.lstop, none⟩
    portP := { s.portP with up := s.portP.phyUp, lostAt := none }
    portL := { s.portL with up := s.portL.phyUp, lostAt := none } }

/-- STORE-INVALID where the start found the store invalid, then KEY-FAULT where the sampled code is FAULT (R175 step 5). -/
def State.startEvents (s : State) : State :=
  let s1 := if s.store.valid then s else s.raise storeInvalidEvent
  if s1.key.taken = .fault then s1.raise (keyFaultEvent none) else s1

/-- A start's settings load ends: steps 4 to 6 (R175, R176). -/
def State.completeLoad (s : State) : State := s.sampleInputs.startEvents

/-- The end of a save (R173). -/
def State.endSave (copy : Settings) (verified : Bool) (s : State) : State :=
  if verified then { s with store := Store.written copy, save := .idle }
  else ({ s with save := .failed, store := s.store.invalidated }).raise { kind := .saveFailed, natural := 6 }

end Sys2Proof.Machine
end

