-- ==== Sys2Proof/Machine/Responder.lean ====
section
/-! DEFINITION. The management responder (chapter 10): the directory of requests, the checks every request meets in their
order, and the forming and sending of its reply. Each request's own rule is in the file of its family. -/

namespace Sys2Proof.Machine

/-! ### The directory (chapter 10, *Directory of requests*; chapter 12, *Request kinds*) -/

inductive RequestKind where
  | readIdentity | readStatus | loadProfile | readProfile | loadStation | readStation | clearStation | loadAreaPolicy
  | readCounters | clearCounters | loadParameter | clearParameter | readParameter | copyActiveToStaged
  | markStagedReady | activateStaged | readImage | forgetImage | openWindow | extendWindow | closeWindow
  | grantService | endService | quarantineStation | releaseStation | takeEvent | forceEvent | setEventControl
  | lockTables | unlockTables | setManagers | setPortSettings | setWindowSettings | saveSettings | restart
  deriving DecidableEq, Repr

def RequestKind.code : RequestKind → Octet
  | .readIdentity => 0x01 | .readStatus => 0x02 | .loadProfile => 0x03 | .readProfile => 0x04 | .loadStation => 0x05
  | .readStation => 0x06 | .clearStation => 0x07 | .loadAreaPolicy => 0x08 | .readCounters => 0x09
  | .clearCounters => 0x0A | .loadParameter => 0x0B | .clearParameter => 0x0C | .readParameter => 0x0D
  | .copyActiveToStaged => 0x0E | .markStagedReady => 0x0F | .activateStaged => 0x10 | .readImage => 0x11
  | .forgetImage => 0x12 | .openWindow => 0x13 | .extendWindow => 0x14 | .closeWindow => 0x15 | .grantService => 0x16
  | .endService => 0x17 | .quarantineStation => 0x18 | .releaseStation => 0x19 | .takeEvent => 0x1A
  | .forceEvent => 0x1B | .setEventControl => 0x1C | .lockTables => 0x1D | .unlockTables => 0x1E | .setManagers => 0x1F
  | .setPortSettings => 0x20 | .setWindowSettings => 0x21 | .saveSettings => 0x22 | .restart => 0x23

/-- Every request of the directory, in the order of its kind. -/
def allKinds : List RequestKind :=
  [.readIdentity, .readStatus, .loadProfile, .readProfile, .loadStation, .readStation, .clearStation, .loadAreaPolicy,
   .readCounters, .clearCounters, .loadParameter, .clearParameter, .readParameter, .copyActiveToStaged,
   .markStagedReady, .activateStaged, .readImage, .forgetImage, .openWindow, .extendWindow, .closeWindow,
   .grantService, .endService, .quarantineStation, .releaseStation, .takeEvent, .forceEvent, .setEventControl,
   .lockTables, .unlockTables, .setManagers, .setPortSettings, .setWindowSettings, .saveSettings, .restart]

/-- The request of a kind octet; none of the directory has its most significant bit set (R160 step 1). -/
def RequestKind.ofCode (o : Octet) : Option RequestKind := allKinds.find? fun k => decide (k.code = o)

/-- The fixed argument length of a kind (chapter 12, *Request kinds*). -/
def RequestKind.argLength : RequestKind → Nat
  | .readIdentity | .readStatus | .copyActiveToStaged | .markStagedReady | .activateStaged | .closeWindow
  | .takeEvent | .lockTables | .unlockTables | .saveSettings | .restart => 0
  | .readProfile | .readStation | .clearStation | .readCounters | .clearCounters | .grantService | .endService
  | .quarantineStation | .releaseStation => 1
  | .clearParameter | .forgetImage | .openWindow | .extendWindow => 2
  | .readParameter | .readImage | .setWindowSettings => 3
  | .loadAreaPolicy => 4
  | .setPortSettings => 6
  | .forceEvent => 9
  | .loadStation => 13
  | .setManagers => 24
  | .loadParameter => 36
  | .setEventControl => 47
  | .loadProfile => 85

/-- The privilege classes (R164). -/
inductive Privilege where
  | open_ | manager | table | staged | key | recovery
  deriving DecidableEq, Repr

def RequestKind.privilege : RequestKind → Privilege
  | .readIdentity | .readStatus | .readProfile | .readStation | .readCounters | .readParameter | .readImage => .open_
  | .clearCounters | .openWindow | .extendWindow | .closeWindow | .grantService | .endService | .quarantineStation
  | .releaseStation | .takeEvent | .lockTables => .manager
  | .loadProfile | .loadStation | .clearStation | .loadAreaPolicy | .activateStaged | .setEventControl
  | .setPortSettings | .setWindowSettings | .saveSettings | .restart => .table
  | .loadParameter | .clearParameter | .copyActiveToStaged | .markStagedReady | .forgetImage => .staged
  | .forceEvent | .unlockTables => .key
  | .setManagers => .recovery

/-- The request is refused BUSY while a save runs (R160 step 5). -/
def RequestKind.busyInSave : RequestKind → Bool
  | .loadProfile | .loadStation | .clearStation | .loadAreaPolicy | .loadParameter | .clearParameter
  | .copyActiveToStaged | .markStagedReady | .activateStaged | .setEventControl | .lockTables | .unlockTables
  | .setManagers | .setPortSettings | .setWindowSettings | .saveSettings | .restart => true
  | .readIdentity | .readStatus | .readProfile | .readStation | .readCounters | .clearCounters | .readParameter
  | .readImage | .forgetImage | .openWindow | .extendWindow | .closeWindow | .grantService | .endService
  | .quarantineStation | .releaseStation | .takeEvent | .forceEvent => false

/-! ### Privilege (R162, R164) -/

/-- The requester is a manager: every entry of the list is empty, or one holds its address (R162). -/
def isManager (managers : Vector (Option Mac) 4) (m : Mac) : Bool :=
  managers.toList.all (fun e => e.isNone) || managers.toList.any fun e => decide (e = some m)

def Privilege.needsManager : Privilege → Bool
  | .open_ | .recovery => false
  | .manager | .table | .staged | .key => true

/-- Step 4: the key position and the lock (R164). -/
def Privilege.keyRefusal (c : Privilege) (pos : KeyPosition) (lock : Lock) : Option ResultCode :=
  match c with
  | .open_ | .manager => none
  | .table => if lock = .unlocked ∨ pos = .service then none else some .locked
  | .staged => if lock = .unlocked ∨ pos = .changeover ∨ pos = .service then none else some .locked
  | .key | .recovery => if pos = .service then none else some .keyPosition

/-! ### Checks, effect and reply -/

/-- What a request came to: the state it leaves, the result code, and the result octets of an accepted request. -/
structure Answer where
  state : State
  code : ResultCode
  result : List Octet
  deriving DecidableEq, Repr

/-- A refused request changes nothing and carries no result data (R158, R160). -/
def refuse (c : ResultCode) (s : State) : Answer := ⟨s, c, []⟩

/-- An accepted request. -/
def accept (result : List Octet) (s : State) : Answer := ⟨s, .ok, result⟩

/-- The arguments: the octets the argument length counts. -/
def argsOf (q : Request) : List Octet := q.octets.take q.argLength.toNat

/-- Steps 2 to 5 of R160, after the refusal of R167: the first that fails gives the result code. -/
def commonRefusal (k : RequestKind) (q : Request) (s : State) : Option ResultCode :=
  if s.restartPending then some .busy
  else if q.argLength.toNat ≠ k.argLength ∨ q.octets.length < k.argLength then some .badLength
  else if k.privilege.needsManager ∧ isManager s.settings.managers q.requester = false then some .notManager
  else match k.privilege.keyRefusal s.keyPosition s.settings.lock with
    | some c => some c
    | none => if k.busyInSave ∧ s.saving then some .busy else none

/-- A request judged: refused by the common checks, or handed to its owning rule (R160). -/
def judge (k : RequestKind) (own : Request → State → Answer) (q : Request) (s : State) : Answer :=
  match commonRefusal k q s with
  | some c => refuse c s
  | none => own q s

/-- The refusals that raise MANAGEMENT-REFUSED (R161). -/
def ResultCode.privilegeRefusal : ResultCode → Bool
  | .notManager | .keyPosition | .locked => true
  | .ok | .unknownRequest | .badLength | .badValue | .busy | .wrongState | .duplicate => false

def managementRefusedEvent (kind : Octet) (c : ResultCode) (m : Mac) : Raised where
  kind := .managementRefused
  natural := 2
  valueA := some kind.toNat
  reason := some (.result c)
  source := some m

/-- MANAGEMENT-REFUSED is raised for the refusals of R161, the reply's forming following it (R159). -/
def Answer.report (kind : Octet) (q : Request) (a : Answer) : State :=
  if a.code.privilegeRefusal then a.state.raise (managementRefusedEvent kind a.code q.requester) else a.state

/-- The reply's octets (R158, R179). `type` is the frame type of the request. -/
def replyFrame (own : Mac) (type : Word16) (kind : Octet) (q : Request) (a : Answer) : List Octet :=
  formFrame q.requester own q.tci type (replyContent (kind ||| 0x80#8) q.number a.code.code a.result)

/-- The reply handed over for the ordinary queue of the arrival port (R158). The reply to an accepted RESTART carries the
restart mark; dropped at hand-over, the warm start begins at that moment (R167). -/
def State.sendReply (p : Port) (octets : List Octet) (restart : Bool) (s : State) : State :=
  let s1 := s.handOver p .ordinary (partFrame octets restart)
  if restart && !((s.port p).accepts .ordinary) then s1.beginWarmStart else s1

/-- A request taken whole: its answer, the event of a refusal, and the reply (R158 to R161). -/
def State.complete (kind : Octet) (restart : Bool) (q : Request) (a : Answer) (s : State) : State :=
  (a.report kind q).sendReply q.port (replyFrame s.identity.address s.settings.managementType kind q a)
    (restart && decide (a.code = .ok))

/-- A management frame reaches the responder (R158): nothing is received while the port is DOWN or a start is under way,
and a group-address requester is counted as a stray. -/
def State.take (q : Request) (serve : State → State) (s : State) : State :=
  let s1 := s.clock q.time
  if s1.receives q.port then
    if isGroup q.requester then s1.countStray q.port else serve s1
  else s1

/-- A request of kind `k` whose owning rule is `own`. -/
def State.request (k : RequestKind) (own : Request → State → Answer) (q : Request) (s : State) : State :=
  s.take q fun s1 => s1.complete k.code (decide (k = .restart)) q (judge k own q s1)

/-- Step 1 of R160 fails: UNKNOWN-REQUEST, or BUSY while an accepted RESTART awaits its warm start (R167). -/
def State.unknown (kind : Octet) (q : Request) (s : State) : State :=
  s.take q fun s1 => s1.complete kind false q (refuse (if s1.restartPending then .busy else .unknownRequest) s1)

end Sys2Proof.Machine
end

