-- ==== Sys2Proof/Machine/BankRequests.lean ====
section
/-! DEFINITION. The requests on the recipe banks (R42 to R49, R51) and on the value image (R88, R89). -/

namespace Sys2Proof.Machine

/-! ### The staged bank -/

/-- A whole multiple of the quantum. -/
def multipleOf (q v : Int) : Bool := decide (v % q = 0)

/-- The consistency checks of a record (R43). -/
def recordConsistent (r : ParamRecord) : Bool :=
  let q : Int := r.quantum
  let span := r.chgHi - r.chgLo
  r.kind.inRange r.runLo && r.kind.inRange r.runHi && r.kind.inRange r.chgLo && r.kind.inRange r.chgHi &&
  decide (r.chgLo ≤ r.runLo) && decide (r.runLo ≤ r.runHi) && decide (r.runHi ≤ r.chgHi) &&
  multipleOf q (r.runLo - r.chgLo) && multipleOf q (r.runHi - r.chgLo) && multipleOf q span &&
  multipleOf q r.stepUp && multipleOf q r.stepDown && decide (r.stepUp ≤ span) && decide (r.stepDown ≤ span)

/-- Another in-use slot of the bank holds the key (R44). -/
def keyTaken (b : Bank) (slot : Fin 512) (k : Key) : Bool :=
  match findSlot (b.set slot none) k with
  | some _ => true
  | none => false

/-- The staged bank takes new contents and the staged-ready mark is cleared (R41). -/
def State.setStaged (b : Bank) (s : State) : State :=
  { s with settings := { s.settings.setBank s.settings.active.other b with stagedReady := false } }

/-- LOAD PARAMETER (R42 to R45). -/
def ownLoadParameter (q : Request) (s : State) : Answer :=
  match finOfNat 512 (natAt (argsOf q) 0 2) with
  | none => refuse .badValue s
  | some i =>
    match readParamRecord ((argsOf q).drop 2) with
    | none => refuse .badValue s
    | some r =>
      if recordConsistent r = false then refuse .badValue s
      else if keyTaken s.settings.stagedBank i r.key then refuse .duplicate s
      else accept [] (s.setStaged (s.settings.stagedBank.set i (some r)))

/-- CLEAR PARAMETER (R46). -/
def ownClearParameter (q : Request) (s : State) : Answer :=
  match finOfNat 512 (natAt (argsOf q) 0 2) with
  | none => refuse .badValue s
  | some i => accept [] (s.setStaged (s.settings.stagedBank.set i none))

/-- READ PARAMETER (R49). -/
def ownReadParameter (q : Request) (s : State) : Answer :=
  match BankId.ofCode (octetAt (argsOf q) 0), finOfNat 512 (natAt (argsOf q) 1 2) with
  | some b, some i =>
    let role : Octet := if b = s.settings.active then 1 else 2
    accept ([b.code, role] ++ beOctets 2 i.val ++
      match (s.settings.bank b)[i] with
      | some r => [1] ++ paramOctets r
      | none => [0] ++ List.replicate 34 0) s
  | _, none => refuse .badValue s
  | none, some _ => refuse .badValue s

/-- COPY ACTIVE TO STAGED (R47). -/
def ownCopyActiveToStaged (_ : Request) (s : State) : Answer := accept [] (s.setStaged s.settings.activeBank)

/-- MARK STAGED READY (R48). -/
def ownMarkStagedReady (_ : Request) (s : State) : Answer :=
  accept [] { s with settings := { s.settings with stagedReady := true } }

/-- ACTIVATE STAGED (R51); its save check is step 5 of R160. -/
def ownActivateStaged (_ : Request) (s : State) : Answer :=
  if s.txns ≠ [] then refuse .busy s
  else if s.window ≠ .shut then refuse .wrongState s
  else if s.settings.stagedReady = false then refuse .wrongState s
  else accept [] s.swap

/-! ### The image -/

/-- The slots from `first` on, `count` of them (R88). -/
def imageRange (s : State) (first count : Nat) : List Octet :=
  (List.range count).flatMap fun k =>
    match finOfNat 512 (first + k) with
    | some i => imageSlotOctets i s.settings.activeBank[i] s.image[i]
    | none => []

/-- READ IMAGE (R88). -/
def ownReadImage (q : Request) (s : State) : Answer :=
  let first := natAt (argsOf q) 0 2
  let count := (octetAt (argsOf q) 2).toNat
  if 511 < first ∨ count = 0 ∨ 32 < count ∨ 511 < first + count - 1 then refuse .badValue s
  else accept ([octetAt (argsOf q) 2] ++ imageRange s first count) s

/-- FORGET IMAGE (R89). -/
def ownForgetImage (q : Request) (s : State) : Answer :=
  match finOfNat 512 (natAt (argsOf q) 0 2) with
  | none => refuse .badValue s
  | some i =>
    match s.image[i] with
    | .pending _ _ _ => refuse .busy s
    | .unknown | .known _ => accept [] (s.setImage i .unknown)

end Sys2Proof.Machine
end

