-- ==== Sys2Proof/Machine/EventRequests.lean ====
section
/-! DEFINITION. TAKE EVENT, FORCE EVENT and SET EVENT CONTROL (R152 to R154). -/

namespace Sys2Proof.Machine

/-- TAKE EVENT (R152): the queued event of highest priority leaves the queue and ALARM is re-evaluated. -/
def ownTakeEvent (_ : Request) (s : State) : Answer :=
  match takeHighest s.events with
  | none => accept ([0] ++ List.replicate 38 0 ++ [0] ++ word16Octets s.lost) s
  | some (e, rest) =>
    accept ([1] ++ eventOctets e ++ [BitVec.ofNat 8 rest.length] ++ word16Octets s.lost)
      ({ s with events := rest }).reAlarm

def forcedEvent (level : Nat) (value : Int) (source : Mac) : Raised where
  kind := .forced
  natural := level
  forced := true
  valueA := some value
  source := some source

/-- ENTERED 1 or DISCARDED 2, the occupancy and the lost count after the entry decision (R153). -/
def forceResult (r : EntryResult) : List Octet :=
  [if r.joined then 1 else 2, BitVec.ofNat 8 r.events.length] ++ word16Octets r.lost

/-- FORCE EVENT (R153). -/
def ownForceEvent (q : Request) (s : State) : Answer :=
  let level := (octetAt (argsOf q) 0).toNat
  let value := toSigned 8 (natAt (argsOf q) 1 8)
  if level = 0 ∨ 7 < level ∨ value < Config.eventValueMin ∨ Config.eventValueMax < value then refuse .badValue s
  else
    let r := forcedEvent level value q.requester
    accept (forceResult (entryOf s (makeRecord s.settings s.now r))) (s.raise r)

/-! ### SET EVENT CONTROL (R154) -/

/-- Everything SET EVENT CONTROL writes. -/
structure EventControl where
  alarmMask : Nat
  enters : Vector Bool 32
  groupEnables : Vector Bool 4
  promotionA : Option EventKind
  promotionB : Option EventKind
  notice : Option NoticeDestination
  deriving DecidableEq, Repr

/-- A promotion slot: none, or an event kind that may be promoted (R154 check 1). -/
def promotionOf (o : Octet) : Option (Option EventKind) :=
  if o = 0 then some none
  else match EventKind.ofCode o with
    | none => none
    | some .envelopeBreach | some .storeInvalid | some .forced => none
    | some .writeRefused => some (some .writeRefused)
    | some .writeClamped => some (some .writeClamped)
    | some .readRefused => some (some .readRefused)
    | some .controlRefused => some (some .controlRefused)
    | some .programRefused => some (some .programRefused)
    | some .stationUnknown => some (some .stationUnknown)
    | some .malformed => some (some .malformed)
    | some .stationRejected => some (some .stationRejected)
    | some .replyTimeout => some (some .replyTimeout)
    | some .drift => some (some .drift)
    | some .quarantined => some (some .quarantined)
    | some .windowOpened => some (some .windowOpened)
    | some .windowClosed => some (some .windowClosed)
    | some .changeoverIncomplete => some (some .changeoverIncomplete)
    | some .keyFault => some (some .keyFault)
    | some .saveFailed => some (some .saveFailed)
    | some .managementRefused => some (some .managementRefused)

/-- The notice destination: its octets are ignored where its presence octet is 0 (R178). -/
def noticeOf (own : Mac) (o : List Octet) : Option (Option NoticeDestination) :=
  match boolOfCode (octetAt o 0), portOfCode (octetAt o 1) with
  | some false, _ => some none
  | some true, some p => if macAt o 2 = own then none else some (some ⟨macAt o 2, p⟩)
  | some true, none => none
  | none, _ => none

/-- Octets `n` of them from offset `i`, each 0 or 1. -/
def boolsAt (o : List Octet) (i n : Nat) : Option (Vector Bool n) :=
  if (List.range n).all fun k => (boolOfCode (octetAt o (i + k))).isSome then
    some (tabulate fun k => decide (octetAt o (i + k.val) = 1))
  else none

/-- The arguments of SET EVENT CONTROL where every field is within its values (R154 check 1); an alarm mask above 6 is
clamped to 6. -/
def readEventControl (own : Mac) (o : List Octet) : Option EventControl := do
  let enters ← boolsAt o 1 32
  let groups ← boolsAt o 33 4
  let a ← promotionOf (octetAt o 37)
  let b ← promotionOf (octetAt o 38)
  let notice ← noticeOf own (o.drop 39)
  pure
    { alarmMask := min Config.maxAlarmMask (octetAt o 0).toNat
      enters := enters
      groupEnables := groups
      promotionA := a
      promotionB := b
      notice := notice }

/-- The station masks are the event-mask fields of all 32 entries (R154). -/
def setMasks (st : Vector StationEntry 32) (enters : Vector Bool 32) : Vector StationEntry 32 :=
  tabulate fun n => { st[n] with config := { st[n].config with enters := enters[n] } }

def Settings.withEventControl (c : EventControl) (st : Settings) : Settings :=
  { st with
    stations := setMasks st.stations c.enters
    alarmMask := c.alarmMask
    groupEnables := c.groupEnables
    promotionA := c.promotionA
    promotionB := c.promotionB
    notice := c.notice }

/-- SET EVENT CONTROL (R154). -/
def ownSetEventControl (q : Request) (s : State) : Answer :=
  match readEventControl s.identity.address (argsOf q) with
  | none => refuse .badValue s
  | some c =>
    if c.promotionA = c.promotionB ∧ c.promotionA ≠ none then refuse .duplicate s
    else accept [BitVec.ofNat 8 c.alarmMask] ({ s with settings := s.settings.withEventControl c }).reAlarm

end Sys2Proof.Machine
end

