-- ==== Sys2Proof/Machine/StationRequests.lean ====
section
/-! DEFINITION. The requests on decode profiles (R7) and on station entries, area policies, counters and station states
(R24 to R31, R33, R36, R37). -/

namespace Sys2Proof.Machine

/-! ### Profiles (R7) -/

/-- An in-use station entry that names the profile has a transaction in flight (R7 check 2). -/
def profileBusy (s : State) (p : Fin 4) : Bool :=
  s.txns.any fun t =>
    let e := s.station t.ref.station
    e.inUse && decide (e.config.profile = p)

/-- An offset plus the width of its field is at most 1500 (R7 check 4). -/
def fieldFits (offset : Word16) (width : Nat) : Bool := decide (offset.toNat + width ≤ Config.maxFieldEnd)

def optFieldFits (offset : Option Word16) (width : Nat) : Bool :=
  match offset with
  | some o => fieldFits o width
  | none => true

/-- A frame type a profile may have (R6). -/
def profileTypeGood (t : Word16) : Bool :=
  decide (Config.lowestFrameType ≤ t.toNat) && !decide (t = Config.vlanType) && !decide (t = Config.flowControlType)

/-- Both length limits in 64..1522, the minimum at most the maximum (R7). -/
def lengthsGood (p : Profile) : Bool :=
  decide (p.minLength.toNat ≤ p.maxLength.toNat) && decide (Config.minFrameLength ≤ p.minLength.toNat) &&
    decide (p.maxLength.toNat ≤ Config.maxFrameLength)

/-- The tag field present whenever some map entry has class WRITE, and 1 or 2 octets wide where present (R7). -/
def tagGood (p : Profile) : Bool :=
  match p.tagField with
  | some t => (decide (t.width = 1) || decide (t.width = 2)) && fieldFits t.offset t.width.toNat
  | none => p.functionMap.all fun e => decide (e.cls ≠ .write)

/-- The checks of an in-use record (R7 check 4). -/
def profileGood (p : Profile) : Bool :=
  profileTypeGood p.frameType && lengthsGood p &&
  optFieldFits (p.discriminator.map (·.offset)) 1 && optFieldFits p.stationField 1 &&
  fieldFits p.functionOffset 1 && fieldFits p.areaOffset 1 && fieldFits p.indexOffset 2 && fieldFits p.countOffset 1 &&
  fieldFits p.firstValueOffset p.valueWidth.toNat && fieldFits p.statusOffset 1 &&
  (decide (p.valueWidth = 2) || decide (p.valueWidth = 4)) && decide (p.replyTimeout ≠ 0) &&
  decide ((p.functionMap.map (·.code)).Nodup) && tagGood p

/-- Two in-use profiles that would be told apart by nothing (R7 check 5). -/
def profilesClash (a b : Profile) : Bool :=
  a.inUse && b.inUse && decide (a.frameType = b.frameType) && decide (a.discriminator = b.discriminator)

/-- LOAD PROFILE (R7). -/
def ownLoadProfile (q : Request) (s : State) : Answer :=
  match finOfNat 4 (octetAt (argsOf q) 0).toNat with
  | none => refuse .badValue s
  | some n =>
    if profileBusy s n then refuse .busy s
    else match readProfileRecord ((argsOf q).drop 1) with
      | none => refuse .badValue s
      | some p =>
        if p.inUse ∧ profileGood p = false then refuse .badValue s
        else if (List.finRange 4).any fun i => decide (i ≠ n) && profilesClash p s.settings.profiles[i] then
          refuse .duplicate s
        else accept [] { s with settings := { s.settings with profiles := s.settings.profiles.set n p } }

/-- READ PROFILE (R7). -/
def ownReadProfile (q : Request) (s : State) : Answer :=
  match finOfNat 4 (octetAt (argsOf q) 0).toNat with
  | none => refuse .badValue s
  | some n => accept ([octetAt (argsOf q) 0] ++ profileOctets s.settings.profiles[n]) s

/-! ### Station entries (R24 to R28) -/

/-- The uniqueness checks (R25): the offered configuration meets another in-use entry's. -/
def configsClash (a b : StationConfig) : Bool :=
  decide (a.address = b.address) &&
    match a.mode, b.mode with
    | .embedded, .embedded => decide (a.embedded = b.embedded)
    | .address, .address | .address, .embedded | .embedded, .address => true

/-- The state of an entry after LOAD STATION (R26). -/
def stateAfterLoad (e : StationEntry) : StationState :=
  if e.inUse ∧ e.state = .quarantined then .quarantined else .normal

/-- LOAD STATION (R24 to R26). -/
def ownLoadStation (q : Request) (s : State) : Answer :=
  match finOfNat 32 (octetAt (argsOf q) 0).toNat with
  | none => refuse .badValue s
  | some n =>
    if s.inFlight n then refuse .busy s
    else match readStationConfig ((argsOf q).drop 1) with
      | none => refuse .badValue s
      | some c =>
        if isGroup c.address ∨ c.address = s.identity.address then refuse .badValue s
        else if (List.finRange 32).any fun i =>
            decide (i ≠ n) && (s.station i).inUse && configsClash c (s.station i).config then
          refuse .duplicate s
        else accept [] (s.setStation n
          { s.station n with inUse := true, config := c, state := stateAfterLoad (s.station n) })

/-- READ STATION (R28). -/
def ownReadStation (q : Request) (s : State) : Answer :=
  match finOfNat 32 (octetAt (argsOf q) 0).toNat with
  | none => refuse .badValue s
  | some n =>
    let e := s.station n
    accept ([octetAt (argsOf q) 0, boolCode e.inUse] ++ stationConfigOctets e.config ++ [e.state.code] ++
      e.policies.toList.flatMap policyOctets) s

/-- CLEAR STATION (R27). -/
def ownClearStation (q : Request) (s : State) : Answer :=
  match finOfNat 32 (octetAt (argsOf q) 0).toNat with
  | none => refuse .badValue s
  | some n =>
    if s.inFlight n then refuse .busy s
    else if (s.station n).state = .quarantined then refuse .wrongState s
    else accept [] (s.setStation n
      { s.station n with inUse := false, state := .normal, policies := Vector.replicate 16 defaultPolicy })

/-- LOAD AREA POLICY (R36). -/
def ownLoadAreaPolicy (q : Request) (s : State) : Answer :=
  match finOfNat 32 (octetAt (argsOf q) 0).toNat, finOfNat 16 (octetAt (argsOf q) 1).toNat with
  | some n, some a =>
    if (s.station n).inUse = false then refuse .wrongState s
    else match UnlistedVerdict.ofCode (octetAt (argsOf q) 2), ReadVerdict.ofCode (octetAt (argsOf q) 3) with
      | some u, some r =>
        accept [] (s.setStation n { s.station n with policies := (s.station n).policies.set a ⟨u, r⟩ })
      | _, none => refuse .badValue s
      | none, some _ => refuse .badValue s
  | _, none => refuse .badValue s
  | none, some _ => refuse .badValue s

/-! ### Counters (R37) -/

def counterOctets (c : StationCounters) : List Octet :=
  word16Octets c.admitted ++ word16Octets c.clamped ++ word16Octets c.refused ++ word16Octets c.drift

/-- READ COUNTERS (R37). -/
def ownReadCounters (q : Request) (s : State) : Answer :=
  match finOfNat 32 (octetAt (argsOf q) 0).toNat with
  | none => refuse .badValue s
  | some n => accept ([octetAt (argsOf q) 0] ++ counterOctets s.counters[n]) s

/-- CLEAR COUNTERS (R37). -/
def ownClearCounters (q : Request) (s : State) : Answer :=
  match finOfNat 32 (octetAt (argsOf q) 0).toNat with
  | none => refuse .badValue s
  | some n => accept [] (s.setCounters n zeroStationCounters)

/-! ### Station states (R29 to R31, R33) -/

/-- GRANT SERVICE (R29). -/
def ownGrantService (q : Request) (s : State) : Answer :=
  match finOfNat 32 (octetAt (argsOf q) 0).toNat with
  | none => refuse .badValue s
  | some n =>
    if s.keyPosition ≠ .service then refuse .keyPosition s
    else if (s.station n).inUse = false ∨ (s.station n).state = .quarantined then refuse .wrongState s
    else accept [] (s.setStationState n .service)

/-- END SERVICE (R30). -/
def ownEndService (q : Request) (s : State) : Answer :=
  match finOfNat 32 (octetAt (argsOf q) 0).toNat with
  | none => refuse .badValue s
  | some n =>
    if (s.station n).inUse = false ∨ (s.station n).state ≠ .service then refuse .wrongState s
    else accept [] (s.setStationState n .normal)

/-- QUARANTINE STATION (R31). -/
def ownQuarantineStation (q : Request) (s : State) : Answer :=
  match finOfNat 32 (octetAt (argsOf q) 0).toNat with
  | none => refuse .badValue s
  | some n =>
    if (s.station n).inUse = false then refuse .wrongState s
    else if (s.station n).state = .quarantined then accept [] s
    else accept [] ((s.setStationState n .quarantined).raise (quarantinedEvent n .request))

/-- RELEASE STATION (R33). -/
def ownReleaseStation (q : Request) (s : State) : Answer :=
  match finOfNat 32 (octetAt (argsOf q) 0).toNat with
  | none => refuse .badValue s
  | some n =>
    if s.keyPosition ≠ .service then refuse .keyPosition s
    else if (s.station n).inUse = false ∨ (s.station n).state ≠ .quarantined then refuse .wrongState s
    else accept [] (s.setStationState n .normal)

end Sys2Proof.Machine
end

