-- ==== Sys2Proof/Machine/SystemRequests.lean ====
section
/-! DEFINITION. READ IDENTITY, READ STATUS, the lock, the manager list, the port and window settings, SAVE SETTINGS and
RESTART (R162, R163, R165 to R169, R172, R176). -/

namespace Sys2Proof.Machine

/-! ### Identity and status -/

def identityOctets (d : Identity) : List Octet :=
  Config.partCode ++ [d.revision] ++ beOctets 8 d.uniqueNumber.toNat ++ macOctets d.address

/-- READ IDENTITY (R165). -/
def ownReadIdentity (_ : Request) (s : State) : Answer := accept (identityOctets s.identity) s

def upCode (up : Bool) : Octet := if up then 1 else 2

def SaveState.code : SaveState → Octet
  | .idle => 1 | .saving _ => 2 | .failed => 3

def arrivalOctets (c : ArrivalCounters) : List Octet :=
  word32Octets c.fcsErrors ++ word32Octets c.lengthErrors ++ word32Octets c.strayManagement ++
  word32Octets c.foreignDrops

def egressOctets (c : EgressCounters) : List Octet :=
  word32Octets c.expressFullDrops ++ word32Octets c.ordinaryFullDrops ++ word32Octets c.downDrops ++
  word32Octets c.lostPartFrames ++ word32Octets c.framesSent

/-- The status result (R166; chapter 12, *Status result*). -/
def statusOctets (s : State) : List Octet :=
  [s.keyPosition.code, boolCode (decide (s.key.taken = .fault)), s.lineIn.taken.code, s.window.code] ++
  beOctets 2 s.secondsRemaining ++
  [s.settings.active.code, boolCode s.settings.stagedReady, s.settings.lock.code, s.save.code, boolCode s.store.valid,
    boolCode s.alarm, boolCode s.trip, BitVec.ofNat 8 s.events.length] ++
  word16Octets s.lost ++
  [boolCode (groupPending s.events 0), boolCode (groupPending s.events 1), boolCode (groupPending s.events 2),
    boolCode (groupPending s.events 3), BitVec.ofNat 8 s.txns.length] ++
  word32Octets s.unmatched ++ [upCode s.portP.up, upCode s.portL.up] ++
  arrivalOctets s.portP.arrival ++ arrivalOctets s.portL.arrival ++ word32Octets s.malformed ++
  egressOctets s.portP.egress ++ egressOctets s.portL.egress ++
  [BitVec.ofNat 8 s.portP.express.length, BitVec.ofNat 8 s.portP.ordinary.length,
    BitVec.ofNat 8 s.portL.express.length, BitVec.ofNat 8 s.portL.ordinary.length,
    BitVec.ofNat 8 s.portP.runCount, BitVec.ofNat 8 s.portL.runCount]

/-- READ STATUS (R166). -/
def ownReadStatus (_ : Request) (s : State) : Answer := accept (statusOctets s) s

/-! ### The lock and the manager list -/

def State.setLock (l : Lock) (s : State) : State := { s with settings := { s.settings with lock := l } }

/-- LOCK TABLES (R163). -/
def ownLockTables (_ : Request) (s : State) : Answer := accept [] (s.setLock .locked)

/-- UNLOCK TABLES (R163); its key condition is step 4 of R160. -/
def ownUnlockTables (_ : Request) (s : State) : Answer := accept [] (s.setLock .unlocked)

/-- The four addresses of SET MANAGERS. -/
def managersOf (o : List Octet) : Vector (Option Mac) 4 := tabulate fun i => optMacAt o (6 * i.val)

/-- An entry that may not stand in the list (R162 check 1). -/
def badManager (own : Mac) : Option Mac → Bool
  | none => false
  | some m => isGroup m || decide (m = own)

/-- Two non-empty entries with the same address (R162 check 2). -/
def duplicateManagers (l : List (Option Mac)) : Bool := !decide (l.reduceOption.Nodup)

/-- SET MANAGERS (R162). -/
def ownSetManagers (q : Request) (s : State) : Answer :=
  let list := managersOf (argsOf q)
  if list.toList.any (badManager s.identity.address) then refuse .badValue s
  else if duplicateManagers list.toList then refuse .duplicate s
  else accept [] { s with settings := { s.settings with managers := list } }

/-! ### Port settings and window settings -/

/-- An ordinary share as it comes into force (R137). -/
def clampShare (n : Nat) : Nat := max Config.minShare (min Config.maxShare n)

def badManagementType (t : Word16) : Bool :=
  decide (t.toNat < Config.lowestFrameType) || decide (t = Config.vlanType) || decide (t = Config.flowControlType)

def portSettingsOctets (st : Settings) : List Octet :=
  [st.plant.foreign.code, st.line.foreign.code, BitVec.ofNat 8 st.plant.share, BitVec.ofNat 8 st.line.share] ++
  word16Octets st.managementType

/-- SET PORT SETTINGS (R168). -/
def ownSetPortSettings (q : Request) (s : State) : Answer :=
  let o := (argsOf q)
  match ForeignPolicy.ofCode (octetAt o 0), ForeignPolicy.ofCode (octetAt o 1) with
  | some p, some l =>
    if badManagementType (word16At o 4) then refuse .badValue s
    else
      let st : Settings :=
        { s.settings with
          plant := ⟨p, clampShare (octetAt o 2).toNat⟩
          line := ⟨l, clampShare (octetAt o 3).toNat⟩
          managementType := word16At o 4 }
      accept (portSettingsOctets st) { s with settings := st }
  | _, none => refuse .badValue s
  | none, some _ => refuse .badValue s

/-- SET WINDOW SETTINGS (R118, R169). -/
def ownSetWindowSettings (q : Request) (s : State) : Answer :=
  let hold := natAt (argsOf q) 0 2
  match TriggerSet.ofCode (octetAt (argsOf q) 2) with
  | some t =>
    if Config.maxHoldOffSeconds < hold then refuse .badValue s
    else accept (beOctets 2 hold ++ [t.code]) { s with settings := { s.settings with holdOff := hold, triggers := t } }
  | none => refuse .badValue s

/-! ### The store and the restart -/

/-- SAVE SETTINGS (R172): the copy is taken, the state is SAVING and the store loses its validity mark. -/
def ownSaveSettings (_ : Request) (s : State) : Answer :=
  accept [] { s with save := .saving s.settings.stored, store := s.store.invalidated }

/-- RESTART (R167, R176). -/
def ownRestart (_ : Request) (s : State) : Answer := accept [] { s with restartPending := true }

end Sys2Proof.Machine
end

