-- ==== Sys2Proof/Machine/WindowRequests.lean ====
section
/-! DEFINITION. OPEN WINDOW, EXTEND WINDOW and CLOSE WINDOW (R119 to R122). -/

namespace Sys2Proof.Machine

/-- A length clamped to 7200 s (R119). -/
def clampLength (n : Nat) : Nat := min Config.maxWindowSeconds n

/-- WINDOW-OPENED (R120). -/
def openedEvent (length : Nat) (swapped : Bool) (source : Mac) : Raised where
  kind := .windowOpened
  natural := 1
  valueA := some length
  reason := if swapped then some .swap else none
  source := some source

/-- The window becomes OPEN for `length` seconds (R120 step 2). -/
def State.startWindow (length : Nat) (s : State) : State :=
  { s with window := .opened s.now (s.now + Config.seconds length) }

/-- The opening (R120): the swap where the staged bank is ready, then OPEN, then WINDOW-OPENED. -/
def State.openFor (length : Nat) (source : Mac) (s : State) : State :=
  let ready := s.settings.stagedReady
  let s1 := if ready then s.swap else s
  (s1.startWindow length).raise (openedEvent length ready source)

/-- OPEN WINDOW (R119, R120). -/
def ownOpenWindow (q : Request) (s : State) : Answer :=
  let seconds := natAt (argsOf q) 0 2
  if s.keyPosition ≠ .changeover then refuse .keyPosition s
  else if s.window ≠ .shut then refuse .wrongState s
  else if s.lineIn.taken ≠ .stopped then refuse .wrongState s
  else if s.settings.stagedReady = true ∧ (s.txns ≠ [] ∨ s.saving = true) then refuse .busy s
  else if seconds = 0 then refuse .badValue s
  else
    accept (beOctets 2 (clampLength seconds) ++ beOctets 2 (clampLength seconds))
      (s.openFor (clampLength seconds) q.requester)

/-- EXTEND WINDOW (R121). -/
def ownExtendWindow (q : Request) (s : State) : Answer :=
  let seconds := natAt (argsOf q) 0 2
  match s.window with
  | .opened openTime _ =>
    if seconds = 0 then refuse .badValue s
    else
      let s1 := { s with
        window := .opened openTime (min (s.now + Config.seconds seconds) (openTime + Config.seconds Config.maxWindowSeconds)) }
      accept (beOctets 2 s1.secondsRemaining) s1
  | .shut | .draining | .holdOff _ => refuse .wrongState s

/-- CLOSE WINDOW (R122): the answer carries the CHANGE-mode transactions the window then waits for. -/
def ownCloseWindow (q : Request) (s : State) : Answer :=
  match s.window with
  | .opened _ _ => accept [BitVec.ofNat 8 s.changeInFlight] (s.closeWindow (.request q.requester))
  | .shut | .draining | .holdOff _ => refuse .wrongState s

end Sys2Proof.Machine
end

