-- ==== Sys2Proof/Machine/Requests.lean ====
section
/-! DEFINITION. The meanings of the request commands: each takes its request whole (R159) under its kind's line of the
directory and its owning rule; and the taking of a management frame by the kind it carries (R158, R160 step 1). -/

namespace Sys2Proof.Machine

abbrev Result := Host.Outcome State Fault Refusal

/-- The owning rule of each request of the directory. -/
def ownRule : RequestKind → Request → State → Answer
  | .readIdentity => ownReadIdentity
  | .readStatus => ownReadStatus
  | .loadProfile => ownLoadProfile
  | .readProfile => ownReadProfile
  | .loadStation => ownLoadStation
  | .readStation => ownReadStation
  | .clearStation => ownClearStation
  | .loadAreaPolicy => ownLoadAreaPolicy
  | .readCounters => ownReadCounters
  | .clearCounters => ownClearCounters
  | .loadParameter => ownLoadParameter
  | .clearParameter => ownClearParameter
  | .readParameter => ownReadParameter
  | .copyActiveToStaged => ownCopyActiveToStaged
  | .markStagedReady => ownMarkStagedReady
  | .activateStaged => ownActivateStaged
  | .readImage => ownReadImage
  | .forgetImage => ownForgetImage
  | .openWindow => ownOpenWindow
  | .extendWindow => ownExtendWindow
  | .closeWindow => ownCloseWindow
  | .grantService => ownGrantService
  | .endService => ownEndService
  | .quarantineStation => ownQuarantineStation
  | .releaseStation => ownReleaseStation
  | .takeEvent => ownTakeEvent
  | .forceEvent => ownForceEvent
  | .setEventControl => ownSetEventControl
  | .lockTables => ownLockTables
  | .unlockTables => ownUnlockTables
  | .setManagers => ownSetManagers
  | .setPortSettings => ownSetPortSettings
  | .setWindowSettings => ownSetWindowSettings
  | .saveSettings => ownSaveSettings
  | .restart => ownRestart

/-- A management frame's version and kind decide which request is taken (R160 step 1). -/
def State.takeManagement (version kind : Octet) (q : Request) (s : State) : State :=
  if version = Config.protocolVersion then
    match RequestKind.ofCode kind with
    | some k => s.request k (ownRule k) q
    | none => s.unknown kind q
  else s.unknown kind q

/-- The request a management frame carries (R158): the five header octets are read from its payload. -/
def requestOf (time : Nat) (port : Port) (f : List Octet) : Request where
  time := time
  port := port
  tci := frameTci f
  requester := frameSource f
  number := octetAt (payload f) 2
  argLength := word16At (payload f) 3
  octets := (payload f).drop 5

/-- A frame that carries a request of the given version and kind to the part with hardware address `own` and management
type `type`: the frame `requestOf` reads. -/
def requestFrame (own : Mac) (type : Word16) (version kind : Octet) (q : Request) : List Octet :=
  formFrame own q.requester q.tci type ([version, kind, q.number] ++ word16Octets q.argLength ++ q.octets)

/-! ### One meaning for each request command -/

/-- UNKNOWN_REQUEST (R160). A version and kind of the directory are no unknown request: the frame is then the request it
carries. -/
def execUnknownRequest (version kind : Octet) (q : Request) (s : State) : Result :=
  .next (s.takeManagement version kind q)

/-- READ_IDENTITY (R165). -/
def execReadIdentity (q : Request) (s : State) : Result := .next (s.request .readIdentity ownReadIdentity q)

/-- READ_STATUS (R166). -/
def execReadStatus (q : Request) (s : State) : Result := .next (s.request .readStatus ownReadStatus q)

/-- LOAD_PROFILE (R7). -/
def execLoadProfile (q : Request) (s : State) : Result := .next (s.request .loadProfile ownLoadProfile q)

/-- READ_PROFILE (R7). -/
def execReadProfile (q : Request) (s : State) : Result := .next (s.request .readProfile ownReadProfile q)

/-- LOAD_STATION (R24). -/
def execLoadStation (q : Request) (s : State) : Result := .next (s.request .loadStation ownLoadStation q)

/-- READ_STATION (R28). -/
def execReadStation (q : Request) (s : State) : Result := .next (s.request .readStation ownReadStation q)

/-- CLEAR_STATION (R27). -/
def execClearStation (q : Request) (s : State) : Result := .next (s.request .clearStation ownClearStation q)

/-- LOAD_AREA_POLICY (R36). -/
def execLoadAreaPolicy (q : Request) (s : State) : Result := .next (s.request .loadAreaPolicy ownLoadAreaPolicy q)

/-- READ_COUNTERS (R37). -/
def execReadCounters (q : Request) (s : State) : Result := .next (s.request .readCounters ownReadCounters q)

/-- CLEAR_COUNTERS (R37). -/
def execClearCounters (q : Request) (s : State) : Result := .next (s.request .clearCounters ownClearCounters q)

/-- LOAD_PARAMETER (R42). -/
def execLoadParameter (q : Request) (s : State) : Result := .next (s.request .loadParameter ownLoadParameter q)

/-- CLEAR_PARAMETER (R46). -/
def execClearParameter (q : Request) (s : State) : Result := .next (s.request .clearParameter ownClearParameter q)

/-- READ_PARAMETER (R49). -/
def execReadParameter (q : Request) (s : State) : Result := .next (s.request .readParameter ownReadParameter q)

/-- COPY_ACTIVE_TO_STAGED (R47). -/
def execCopyActiveToStaged (q : Request) (s : State) : Result :=
  .next (s.request .copyActiveToStaged ownCopyActiveToStaged q)

/-- MARK_STAGED_READY (R48). -/
def execMarkStagedReady (q : Request) (s : State) : Result := .next (s.request .markStagedReady ownMarkStagedReady q)

/-- ACTIVATE_STAGED (R51). -/
def execActivateStaged (q : Request) (s : State) : Result := .next (s.request .activateStaged ownActivateStaged q)

/-- READ_IMAGE (R88). -/
def execReadImage (q : Request) (s : State) : Result := .next (s.request .readImage ownReadImage q)

/-- FORGET_IMAGE (R89). -/
def execForgetImage (q : Request) (s : State) : Result := .next (s.request .forgetImage ownForgetImage q)

/-- OPEN_WINDOW (R119). -/
def execOpenWindow (q : Request) (s : State) : Result := .next (s.request .openWindow ownOpenWindow q)

/-- EXTEND_WINDOW (R121). -/
def execExtendWindow (q : Request) (s : State) : Result := .next (s.request .extendWindow ownExtendWindow q)

/-- CLOSE_WINDOW (R122). -/
def execCloseWindow (q : Request) (s : State) : Result := .next (s.request .closeWindow ownCloseWindow q)

/-- GRANT_SERVICE (R29). -/
def execGrantService (q : Request) (s : State) : Result := .next (s.request .grantService ownGrantService q)

/-- END_SERVICE (R30). -/
def execEndService (q : Request) (s : State) : Result := .next (s.request .endService ownEndService q)

/-- QUARANTINE_STATION (R31). -/
def execQuarantineStation (q : Request) (s : State) : Result :=
  .next (s.request .quarantineStation ownQuarantineStation q)

/-- RELEASE_STATION (R33). -/
def execReleaseStation (q : Request) (s : State) : Result := .next (s.request .releaseStation ownReleaseStation q)

/-- TAKE_EVENT (R152). -/
def execTakeEvent (q : Request) (s : State) : Result := .next (s.request .takeEvent ownTakeEvent q)

/-- FORCE_EVENT (R153). -/
def execForceEvent (q : Request) (s : State) : Result := .next (s.request .forceEvent ownForceEvent q)

/-- SET_EVENT_CONTROL (R154). -/
def execSetEventControl (q : Request) (s : State) : Result := .next (s.request .setEventControl ownSetEventControl q)

/-- LOCK_TABLES (R163). -/
def execLockTables (q : Request) (s : State) : Result := .next (s.request .lockTables ownLockTables q)

/-- UNLOCK_TABLES (R163). -/
def execUnlockTables (q : Request) (s : State) : Result := .next (s.request .unlockTables ownUnlockTables q)

/-- SET_MANAGERS (R162). -/
def execSetManagers (q : Request) (s : State) : Result := .next (s.request .setManagers ownSetManagers q)

/-- SET_PORT_SETTINGS (R168). -/
def execSetPortSettings (q : Request) (s : State) : Result := .next (s.request .setPortSettings ownSetPortSettings q)

/-- SET_WINDOW_SETTINGS (R118, R169). -/
def execSetWindowSettings (q : Request) (s : State) : Result :=
  .next (s.request .setWindowSettings ownSetWindowSettings q)

/-- SAVE_SETTINGS (R172). -/
def execSaveSettings (q : Request) (s : State) : Result := .next (s.request .saveSettings ownSaveSettings q)

/-- RESTART (R167, R176). -/
def execRestart (q : Request) (s : State) : Result := .next (s.request .restart ownRestart q)

end Sys2Proof.Machine
end

