-- ==== Sys2Proof/Machine/LineEvents.lean ====
section
/-! DEFINITION. The meanings of the commands that are no requests: frames and links, the deadlines, the line inputs, the
end of a save, and the starts. A command that finds the part without supply, in RESET or in a settings load has the
effect R1, R175 and R176 leave it: the pins and PHY reports still move, and nothing is taken. -/

namespace Sys2Proof.Machine

/-- FRAME_ARRIVAL (R2 to R20): a frame received whole on a port that receives is classified and routed; a management
frame is taken by the responder at its arrival (R159). A frame that the port did not receive
whole is discarded and not counted (R1, R175, R176). -/
def execFrameArrival (time : Nat) (port : Port) (whole : Bool) (octets : List Octet) (s : State) : Result :=
  let s1 := s.clock time
  if s1.receives port && whole then
    match classifyArrival s1.settings s1.identity.address port octets with
    | .management =>
      .next (s1.takeManagement (octetAt (payload octets) 0) (octetAt (payload octets) 1)
        (requestOf time port octets))
    | a => .next (s1.routeArrival port octets a)
  else .next s1

/-- The PHY's report (R1). -/
def State.setPhy (p : Port) (up : Bool) (s : State) : State := s.setPort p { s.port p with phyUp := up }

/-- The LINK report, for a loss of link on port L (R124). -/
def State.linkReport (p : Port) (s : State) : State :=
  match p with
  | .P => s
  | .L => s.report .link none

/-- The discards, for a loss of link on port L (R104). -/
def State.linkDiscards (p : Port) (s : State) : State :=
  match p with
  | .P => s
  | .L => s.discardQueued

/-- A port that is UP goes DOWN (R1, R140): the flush, then the reports in the order the world gives (R131), and the warm
start where a RESTART reply was lost (R140 step 5, R167). -/
def State.portDown (p : Port) (order : LinkOrder) (s : State) : State :=
  let restarting := (s.port p).allFrames.any (·.restart)
  let s1 := s.setPort p ((s.port p).flush s.now)
  let s2 := if order = .reportFirst then s1.linkReport p else s1
  let s3 := s2.linkDiscards p
  let s4 := if order = .discardsFirst then s3.linkReport p else s3
  let s5 := if restarting then s4.beginWarmStart else s4
  if order = .reportLast then s5.linkReport p else s5

/-- LINK_DOWN (R1, R104, R140). A port that is DOWN already, or a part without supply or in RESET, has nothing to lose. -/
def execLinkDown (time : Nat) (port : Port) (order : LinkOrder) (s : State) : Result :=
  let s1 := (s.clock time).setPhy port false
  match s1.phase with
  | .off | .resetHeld => .next s1
  | .loadingCold | .loadingWarm | .running =>
    if (s1.port port).up then .next (s1.portDown port order) else .next s1

/-- LINK_UP (R1, R141). -/
def execLinkUp (time : Nat) (port : Port) (s : State) : Result :=
  let s1 := (s.clock time).setPhy port true
  match s1.phase with
  | .off | .resetHeld => .next s1
  | .loadingCold | .loadingWarm | .running => .next (s1.setPort port { s1.port port with up := true, lostAt := none })

/-- The reports of a completion in the order of R138: transaction mark, restart mark, then a selection. -/
def State.completeOn (p : Port) (f : QueuedFrame) (after : PortState) (s : State) : State :=
  let s1 := s.setPort p after
  let s2 := match f.txn with
    | some r => s1.txnSent r
    | none => s1
  let s3 := if f.restart then s2.beginWarmStart else s2
  s3.selectOn p

/-- TRANSMISSION_COMPLETE (R138). -/
def execTransmissionComplete (time : Nat) (port : Port) (s : State) : Result :=
  let s1 := s.clock time
  if s1.phase = .running then
    match (s1.port port).complete with
    | some (f, after) => .next (s1.completeOn port f after)
    | none => .next s1
  else .next s1

/-- TRANSACTION_DEADLINE (R103). -/
def execTransactionDeadline (time : Nat) (station : Fin 32) (tag : Word16) (s : State) : Result :=
  let s1 := s.clock time
  if s1.phase = .running then
    match dueTxn s1 ⟨station, tag⟩ with
    | some t => .next (s1.endTxn t .timeout 0)
    | none => .next s1
  else .next s1

/-- KEY_CONTACT_CHANGE (R114). -/
def execKeyContactChange (time : Nat) (keyA keyB : Bool) (s : State) : Result :=
  let s1 := { s.clock time with keyA := keyA, keyB := keyB }
  if s1.phase = .running then .next { s1 with key := s1.key.shows (contactCode keyA keyB) s1.now } else .next s1

/-- KEY_CODE_TAKEN (R114, R115). -/
def execKeyCodeTaken (time : Nat) (s : State) : Result :=
  let s1 := s.clock time
  if s1.phase = .running then
    match s1.key.stable s1.now with
    | some code => .next (s1.takeKeyCode code)
    | none => .next s1
  else .next s1

/-- LSTOP_CHANGE (R116). -/
def execLstopChange (time : Nat) (lstop : Bool) (s : State) : Result :=
  let s1 := { s.clock time with lstop := lstop }
  if s1.phase = .running then .next { s1 with lineIn := s1.lineIn.shows (lineOf lstop) s1.now } else .next s1

/-- LINE_STATE_TAKEN (R116). -/
def execLineStateTaken (time : Nat) (s : State) : Result :=
  let s1 := s.clock time
  if s1.phase = .running then
    match s1.lineIn.stable s1.now with
    | some line => .next (s1.takeLineState line)
    | none => .next s1
  else .next s1

/-- WINDOW_DEADLINE (R123). -/
def execWindowDeadline (time : Nat) (s : State) : Result :=
  let s1 := s.clock time
  if s1.phase = .running then
    match s1.window with
    | .opened _ d => if d ≤ s1.now then .next (s1.closeWindow .expiry) else .next s1
    | .shut | .draining | .holdOff _ => .next s1
  else .next s1

/-- HOLD_OFF_DEADLINE (R128). -/
def execHoldOffDeadline (time : Nat) (s : State) : Result :=
  let s1 := s.clock time
  if s1.phase = .running then
    match s1.window with
    | .holdOff d => if d ≤ s1.now then .next { s1 with window := .shut } else .next s1
    | .shut | .draining | .opened _ _ => .next s1
  else .next s1

/-- TRIP_PULSE_END (R149). A pulse running when a warm start begins runs on to its end. -/
def execTripPulseEnd (time : Nat) (s : State) : Result :=
  let s1 := s.clock time
  match s1.phase with
  | .off | .resetHeld | .loadingCold => .next s1
  | .loadingWarm | .running =>
    match s1.pulseEnd with
    | some e => if e ≤ s1.now then .next s1.endTrip else .next s1
    | none => .next s1

/-- SAVE_END (R173). -/
def execSaveEnd (time : Nat) (verified : Bool) (s : State) : Result :=
  let s1 := s.clock time
  if s1.phase = .running then
    match s1.save with
    | .saving copy => .next (s1.endSave copy verified)
    | .idle | .failed => .next s1
  else .next s1

/-- RESET_ASSERTED (R175, R177). A part without supply takes no RESET. -/
def execResetAsserted (s : State) : Result :=
  match s.phase with
  | .off => .next s
  | .resetHeld | .loadingCold | .loadingWarm | .running => .next s.holdReset

/-- COLD_START (R175): power-up of a part without supply, or the release of RESET; in no other phase is there either. -/
def execColdStart (s : State) : Result :=
  match s.phase with
  | .off | .resetHeld => .next s.beginColdStart
  | .loadingCold | .loadingWarm | .running => .next s

/-- SETTINGS_LOAD_COMPLETE (R175, R176). -/
def execSettingsLoadComplete (time : Nat) (s : State) : Result :=
  let s1 := s.clock time
  match s1.phase with
  | .loadingCold | .loadingWarm => .next s1.completeLoad
  | .off | .resetHeld | .running => .next s1

/-- POWER_LOSS (R177). -/
def execPowerLoss (s : State) : Result := .next s.losePower

end Sys2Proof.Machine
end

