-- ==== Sys2Proof/Machine/Dispatch.lean ====
section
/-! DEFINITION. One arm for each command: the call of its meaning. -/

namespace Sys2Proof.Machine

def exec (i : Instr) (s : State) : Host.Outcome State Fault Refusal :=
  match i with
  | .frameArrival time port whole octets => Sys2Proof.Machine.execFrameArrival time port whole octets s
  | .linkDown time port order => Sys2Proof.Machine.execLinkDown time port order s
  | .linkUp time port => Sys2Proof.Machine.execLinkUp time port s
  | .transmissionComplete time port => Sys2Proof.Machine.execTransmissionComplete time port s
  | .transactionDeadline time station tag => Sys2Proof.Machine.execTransactionDeadline time station tag s
  | .keyContactChange time keyA keyB => Sys2Proof.Machine.execKeyContactChange time keyA keyB s
  | .keyCodeTaken time => Sys2Proof.Machine.execKeyCodeTaken time s
  | .lstopChange time lstop => Sys2Proof.Machine.execLstopChange time lstop s
  | .lineStateTaken time => Sys2Proof.Machine.execLineStateTaken time s
  | .windowDeadline time => Sys2Proof.Machine.execWindowDeadline time s
  | .holdOffDeadline time => Sys2Proof.Machine.execHoldOffDeadline time s
  | .tripPulseEnd time => Sys2Proof.Machine.execTripPulseEnd time s
  | .saveEnd time verified => Sys2Proof.Machine.execSaveEnd time verified s
  | .resetAsserted => Sys2Proof.Machine.execResetAsserted s
  | .coldStart => Sys2Proof.Machine.execColdStart s
  | .settingsLoadComplete time => Sys2Proof.Machine.execSettingsLoadComplete time s
  | .unknownRequest version kind q => Sys2Proof.Machine.execUnknownRequest version kind q s
  | .readIdentity q => Sys2Proof.Machine.execReadIdentity q s
  | .readStatus q => Sys2Proof.Machine.execReadStatus q s
  | .loadProfile q => Sys2Proof.Machine.execLoadProfile q s
  | .readProfile q => Sys2Proof.Machine.execReadProfile q s
  | .loadStation q => Sys2Proof.Machine.execLoadStation q s
  | .readStation q => Sys2Proof.Machine.execReadStation q s
  | .clearStation q => Sys2Proof.Machine.execClearStation q s
  | .loadAreaPolicy q => Sys2Proof.Machine.execLoadAreaPolicy q s
  | .readCounters q => Sys2Proof.Machine.execReadCounters q s
  | .clearCounters q => Sys2Proof.Machine.execClearCounters q s
  | .loadParameter q => Sys2Proof.Machine.execLoadParameter q s
  | .clearParameter q => Sys2Proof.Machine.execClearParameter q s
  | .readParameter q => Sys2Proof.Machine.execReadParameter q s
  | .copyActiveToStaged q => Sys2Proof.Machine.execCopyActiveToStaged q s
  | .markStagedReady q => Sys2Proof.Machine.execMarkStagedReady q s
  | .activateStaged q => Sys2Proof.Machine.execActivateStaged q s
  | .readImage q => Sys2Proof.Machine.execReadImage q s
  | .forgetImage q => Sys2Proof.Machine.execForgetImage q s
  | .openWindow q => Sys2Proof.Machine.execOpenWindow q s
  | .extendWindow q => Sys2Proof.Machine.execExtendWindow q s
  | .closeWindow q => Sys2Proof.Machine.execCloseWindow q s
  | .grantService q => Sys2Proof.Machine.execGrantService q s
  | .endService q => Sys2Proof.Machine.execEndService q s
  | .quarantineStation q => Sys2Proof.Machine.execQuarantineStation q s
  | .releaseStation q => Sys2Proof.Machine.execReleaseStation q s
  | .takeEvent q => Sys2Proof.Machine.execTakeEvent q s
  | .forceEvent q => Sys2Proof.Machine.execForceEvent q s
  | .setEventControl q => Sys2Proof.Machine.execSetEventControl q s
  | .lockTables q => Sys2Proof.Machine.execLockTables q s
  | .unlockTables q => Sys2Proof.Machine.execUnlockTables q s
  | .setManagers q => Sys2Proof.Machine.execSetManagers q s
  | .setPortSettings q => Sys2Proof.Machine.execSetPortSettings q s
  | .setWindowSettings q => Sys2Proof.Machine.execSetWindowSettings q s
  | .saveSettings q => Sys2Proof.Machine.execSaveSettings q s
  | .restart q => Sys2Proof.Machine.execRestart q s
  | .powerLoss => Sys2Proof.Machine.execPowerLoss s

end Sys2Proof.Machine
end

