-- ==== Sys2Proof/WellFormed.lean ====
section
/-! DEFINITION. Which commands can reach the part at all: a received frame has the parts every frame has, and a request
is carried whole by a frame that passes the arrival checks (R2, R3, R158). -/

namespace Sys2Proof

/-- Octets of the frame that carries the request: the addresses, the tag where there is one, the type, the five header
octets of the payload, the octets after them and the FCS (R3, R158). -/
def Request.frameLength (q : Request) : Nat :=
  14 + (if q.tci.isSome then 4 else 0) + 5 + q.octets.length + 4

/-- The carrying frame passes the length check of R2. -/
def Request.wellFormed (q : Request) : Bool :=
  decide (Config.minFrameLength ≤ q.frameLength) && decide (q.frameLength ≤ Config.maxFrameLength)

/-- Shortest run of octets that holds two addresses, a type and an FCS (R2, R3). -/
def leastFrame : Nat := 18

/-- Version 1 and a kind of the directory, 0x01 to 0x23 (R160 step 1; chapter 12, *Request kinds*). -/
def inDirectory (version kind : Octet) : Bool :=
  decide (version = Config.protocolVersion) && decide (1 ≤ kind.toNat) && decide (kind.toNat ≤ 0x23)

/-- The request a request command carries. -/
def Instr.carried : Instr → Option Request
  | .frameArrival _ _ _ _ => none
  | .linkDown _ _ _ => none
  | .linkUp _ _ => none
  | .transmissionComplete _ _ => none
  | .transactionDeadline _ _ _ => none
  | .keyContactChange _ _ _ => none
  | .keyCodeTaken _ => none
  | .lstopChange _ _ => none
  | .lineStateTaken _ => none
  | .windowDeadline _ => none
  | .holdOffDeadline _ => none
  | .tripPulseEnd _ => none
  | .saveEnd _ _ => none
  | .resetAsserted => none
  | .coldStart => none
  | .settingsLoadComplete _ => none
  | .powerLoss => none
  | .unknownRequest _ _ q => some q
  | .readIdentity q => some q
  | .readStatus q => some q
  | .loadProfile q => some q
  | .readProfile q => some q
  | .loadStation q => some q
  | .readStation q => some q
  | .clearStation q => some q
  | .loadAreaPolicy q => some q
  | .readCounters q => some q
  | .clearCounters q => some q
  | .loadParameter q => some q
  | .clearParameter q => some q
  | .readParameter q => some q
  | .copyActiveToStaged q => some q
  | .markStagedReady q => some q
  | .activateStaged q => some q
  | .readImage q => some q
  | .forgetImage q => some q
  | .openWindow q => some q
  | .extendWindow q => some q
  | .closeWindow q => some q
  | .grantService q => some q
  | .endService q => some q
  | .quarantineStation q => some q
  | .releaseStation q => some q
  | .takeEvent q => some q
  | .forceEvent q => some q
  | .setEventControl q => some q
  | .lockTables q => some q
  | .unlockTables q => some q
  | .setManagers q => some q
  | .setPortSettings q => some q
  | .setWindowSettings q => some q
  | .saveSettings q => some q
  | .restart q => some q

/-- The checks on the command's own operands: an unknown request is none of the directory's, and a received frame is no
shorter than its fixed parts. -/
def Instr.operandsGood : Instr → Bool
  | .frameArrival _ _ _ octets => decide (leastFrame ≤ octets.length)
  | .unknownRequest version kind _ => !inDirectory version kind
  | .linkDown _ _ _ | .linkUp _ _ | .transmissionComplete _ _ | .transactionDeadline _ _ _ | .keyContactChange _ _ _
  | .keyCodeTaken _ | .lstopChange _ _ | .lineStateTaken _ | .windowDeadline _ | .holdOffDeadline _ | .tripPulseEnd _
  | .saveEnd _ _ | .resetAsserted | .coldStart | .settingsLoadComplete _ | .powerLoss => true
  | .readIdentity _ | .readStatus _ | .loadProfile _ | .readProfile _ | .loadStation _ | .readStation _
  | .clearStation _ | .loadAreaPolicy _ | .readCounters _ | .clearCounters _ | .loadParameter _ | .clearParameter _
  | .readParameter _ | .copyActiveToStaged _ | .markStagedReady _ | .activateStaged _ | .readImage _ | .forgetImage _
  | .openWindow _ | .extendWindow _ | .closeWindow _ | .grantService _ | .endService _ | .quarantineStation _
  | .releaseStation _ | .takeEvent _ | .forceEvent _ | .setEventControl _ | .lockTables _ | .unlockTables _
  | .setManagers _ | .setPortSettings _ | .setWindowSettings _ | .saveSettings _ | .restart _ => true

/-- A well-formed command. -/
def Instr.wellFormed (i : Instr) : Bool :=
  i.operandsGood && match i.carried with
    | some q => q.wellFormed
    | none => true

end Sys2Proof
end

