-- ==== Sys2Proof/Safety.lean ====
section
/-! DEFINITION. The terms in which statements about the machine are made: requests that pass their checks, replies, and
the properties of a state that every step keeps. -/

namespace Sys2Proof.Machine

/-! ### Requests as statements speak of them -/

/-- The command of each request of the directory. -/
def RequestKind.command : RequestKind → Request → Instr
  | .readIdentity => .readIdentity
  | .readStatus => .readStatus
  | .loadProfile => .loadProfile
  | .readProfile => .readProfile
  | .loadStation => .loadStation
  | .readStation => .readStation
  | .clearStation => .clearStation
  | .loadAreaPolicy => .loadAreaPolicy
  | .readCounters => .readCounters
  | .clearCounters => .clearCounters
  | .loadParameter => .loadParameter
  | .clearParameter => .clearParameter
  | .readParameter => .readParameter
  | .copyActiveToStaged => .copyActiveToStaged
  | .markStagedReady => .markStagedReady
  | .activateStaged => .activateStaged
  | .readImage => .readImage
  | .forgetImage => .forgetImage
  | .openWindow => .openWindow
  | .extendWindow => .extendWindow
  | .closeWindow => .closeWindow
  | .grantService => .grantService
  | .endService => .endService
  | .quarantineStation => .quarantineStation
  | .releaseStation => .releaseStation
  | .takeEvent => .takeEvent
  | .forceEvent => .forceEvent
  | .setEventControl => .setEventControl
  | .lockTables => .lockTables
  | .unlockTables => .unlockTables
  | .setManagers => .setManagers
  | .setPortSettings => .setPortSettings
  | .setWindowSettings => .setWindowSettings
  | .saveSettings => .saveSettings
  | .restart => .restart

/-- Port `p` gives up at time `t` what it has received: the part runs, the port is UP or its loss of link was taken first at
that same moment, and `t` is not past (R1, R93, R170, R175, R176). -/
def State.ready (s : State) (p : Port) (t : Nat) : Prop :=
  s.phase = .running ∧ ((s.port p).up = true ∨ (s.port p).lostAt = some t) ∧ s.now ≤ t

/-- The request reaches the responder: its port receives and its requester is no group address (R158). -/
def State.hears (s : State) (q : Request) : Prop := s.ready q.port q.time ∧ isGroup q.requester = false

/-- The argument length is that of the kind and the arguments fit within the payload (R160 step 2). -/
def lengthSuits (k : RequestKind) (q : Request) : Prop :=
  q.argLength.toNat = k.argLength ∧ k.argLength ≤ q.octets.length

/-- The requester is a manager, where the class of the request needs one (R160 step 3, R162). -/
def managerSuits (k : RequestKind) (q : Request) (s : State) : Prop :=
  k.privilege.needsManager = true → isManager s.settings.managers q.requester = true

/-- The request reaches the responder and passes every check that comes before its owning rule: no accepted RESTART waits
(R167), and steps 1 to 5 of R160. -/
def Served (k : RequestKind) (q : Request) (s : State) : Prop :=
  s.hears q ∧ s.restartPending = false ∧ lengthSuits k q ∧ managerSuits k q s ∧
  k.privilege.keyRefusal s.keyPosition s.settings.lock = none ∧ (k.busyInSave = true → s.saving = false)

/-- The octets of the reply to a request taken in state `s` (R158, R179). -/
def replyOctets (s : State) (k : RequestKind) (q : Request) (c : ResultCode) (result : List Octet) : List Octet :=
  formFrame q.requester s.identity.address q.tci s.settings.managementType
    (replyContent (k.code ||| 0x80#8) q.number c.code result)

/-- `t` with the reply to a request taken in state `s` handed over for the ordinary queue of the arrival port; an accepted
RESTART's reply carries the restart mark (R158, R167). -/
def State.replied (t s : State) (k : RequestKind) (q : Request) (c : ResultCode) (result : List Octet) : State :=
  t.sendReply q.port (replyOctets s k q c result) (decide (k = .restart) && decide (c = .ok))

/-- A request refused with code `c`: MANAGEMENT-REFUSED for NOT-MANAGER, KEY-POSITION and LOCKED, then the reply without
result data, and nothing else (R158, R160, R161). -/
def State.denied (s : State) (k : RequestKind) (q : Request) (c : ResultCode) : State :=
  let t : State := { s with now := q.time }
  let u := if c = .notManager ∨ c = .keyPosition ∨ c = .locked then
      t.raise
        { kind := .managementRefused, natural := 2, valueA := some k.code.toNat, reason := some (.result c),
          source := some q.requester }
    else t
  u.replied s k q c []

/-! ### Numbers as they stand in frames and records -/

/-- The number in the `n` octets of `o` from offset `i` on, in the profile's byte order: under LITTLE the first octet is the
least significant, under BIG the most (R6). -/
def Profile.reads (p : Profile) (o : List Octet) (i n : Nat) : Nat :=
  ((List.range n).map fun k =>
    (octetAt o (i + k)).toNat * 256 ^ (if p.byteOrder = some .little then k else n - 1 - k)).sum

/-- A value as a parameter's kind reads the number `raw` of `w` octets: two's complement for S16 and S32 (R59). -/
def kindReads (k : Kind) (w raw : Nat) : Int :=
  if (k = .s16 ∨ k = .s32) ∧ 256 ^ w ≤ 2 * raw then (raw : Int) - 256 ^ w else raw

/-- The octets a value of the kind has (R38). -/
def kindOctets : Kind → Nat
  | .s16 | .u16 => 2
  | .s32 | .u32 => 4

/-! ### The event unit -/

/-- Of two queued events, that at position `i` has the higher priority (R145): level, rank, not forced, older. -/
def higherPriority (events : List EventRecord) (i j : Nat) : Prop :=
  match events[i]?, events[j]? with
  | some x, some y =>
    y.effective < x.effective ∨
    (x.effective = y.effective ∧
      (y.rank < x.rank ∨
        (x.rank = y.rank ∧ ((x.forced = false ∧ y.forced = true) ∨ (x.forced = y.forced ∧ i < j)))))
  | some _, none => False
  | none, _ => False

/-- The queue holds at most 32 events, ALARM stands exactly while one of them is above the mask (R147, R150), and TRIP is
active exactly while a pulse end is set (R149). -/
structure EventUnitSound (s : State) : Prop where
  bounded : s.events.length ≤ 32
  alarm : s.alarm = true ↔ ∃ e ∈ s.events, s.settings.alarmMask < e.effective
  trip : s.trip = true ↔ s.pulseEnd ≠ none

/-! ### Transactions, the image and the marks -/

/-- The transaction table (R94, R95): at most 64, no two of one station and tag, each with 1..8 distinct slots. -/
structure TableSound (s : State) : Prop where
  bounded : s.txns.length ≤ 64
  unique : (s.txns.map (·.ref)).Nodup
  slots : ∀ t ∈ s.txns, t.slots ≠ [] ∧ t.slots.length ≤ 8 ∧ t.slots.Nodup

/-- A slot is PENDING exactly while one transaction in the table lists it, and refers to that transaction (R79). -/
structure ImageSound (s : State) : Prop where
  held : ∀ (i : Fin 512) (c : Option Int) (v : Int) (r : TxnRef),
    s.image[i] = .pending c v r → ∃ t ∈ s.txns, t.ref = r ∧ i ∈ t.slots
  holds : ∀ t ∈ s.txns, ∀ i ∈ t.slots, ∃ (c : Option Int) (v : Int), s.image[i] = .pending c v t.ref

def Txn.isQueued (t : Txn) : Bool := decide (t.state = .queued)

/-- The order of the table and of the queue of port L (R96, R98): SENT transactions first, then the QUEUED ones, which are
those whose marks the frames of the ordinary queue of L carry, in the same order; no other queue holds a marked frame. -/
structure MarksSound (s : State) : Prop where
  sentFirst : ∃ sent queued, s.txns = sent ++ queued ∧ (∀ t ∈ sent, t.isQueued = false) ∧
    (∀ t ∈ queued, t.isQueued = true) ∧ s.portL.ordinary.filterMap (·.txn) = queued.map (·.ref)
  unmarked : (∀ f ∈ s.portL.express, f.txn = none) ∧ (∀ f ∈ s.portP.express, f.txn = none) ∧
    (∀ f ∈ s.portP.ordinary, f.txn = none)

/-- The image slots once transaction `t` has ended with outcome `o` (R80). -/
def releasedImage (image : Vector ImageSlot 512) (t : Txn) (o : TxnOutcome) : Vector ImageSlot 512 :=
  tabulate fun i => if i ∈ t.slots then image[i].release t.ref o else image[i]

/-! ### Ports -/

/-- A port's queues (R132, R136, R141): within their capacities, only the oldest frame of a queue in transmission and not
one of each queue, nothing waiting while the transmitter is free, and nothing at all while the port is DOWN. -/
structure PortSound (ps : PortState) : Prop where
  express : ps.express.length ≤ 32
  ordinary : ps.ordinary.length ≤ 64
  expressTail : ∀ f ∈ ps.express.tail, f.inTransmission = false
  ordinaryTail : ∀ f ∈ ps.ordinary.tail, f.inTransmission = false
  oneTransmission : ps.express.any (·.inTransmission) = false ∨ ps.ordinary.any (·.inTransmission) = false
  busy : ps.transmitterFree = true → ps.express = [] ∧ ps.ordinary = []
  down : ps.up = false → ps.express = [] ∧ ps.ordinary = [] ∧ ps.runCount = 0

/-- A settings load is under way (R175, R176). -/
def Phase.loading : Phase → Bool
  | .loadingCold | .loadingWarm => true
  | .off | .resetHeld | .running => false

/-- The part has its supply and is not held in RESET. -/
def Phase.alive : Phase → Bool
  | .loadingCold | .loadingWarm | .running => true
  | .off | .resetHeld => false

/-- Both ports are sound; while the part is alive each link state is its PHY's report (R1); while the part does not run, in
RESET and during a settings load among others, all four queues are empty (R132, R141, R175). -/
structure QueuesSound (s : State) : Prop where
  plant : PortSound s.portP
  line : PortSound s.portL
  links : s.phase.alive = true → s.portP.up = s.portP.phyUp ∧ s.portL.up = s.portL.phyUp
  empty : s.phase ≠ .running → ∀ p : Port, (s.port p).express = [] ∧ (s.port p).ordinary = []

/-! ### The window and SERVICE -/

/-- The window is OPEN only while the taken key position is CHANGEOVER (R123) and for at most 7200 s (R121), and it is SHUT
throughout a settings load (R118). -/
structure WindowSound (s : State) : Prop where
  key : s.window.isOpen = true → s.keyPosition = .changeover
  length : ∀ o d, s.window = .opened o d → d ≤ o + Config.seconds 7200
  loading : s.phase.loading = true → s.window = .shut

/-- A station is in SERVICE only while the taken key position is SERVICE (R29) and its entry is in use, and none is during
a settings load (R23). -/
structure ServiceSound (s : State) : Prop where
  key : ∀ n : Fin 32, (s.station n).state = .service → (s.station n).inUse = true ∧ s.keyPosition = .service
  loading : s.phase.loading = true → ∀ n : Fin 32, (s.station n).state ≠ .service

/-! ### Settings -/

/-- A property of the working settings, of the stored settings and of the copy a running save holds. -/
structure EverySettings (P : Settings → Prop) (s : State) : Prop where
  working : P s.settings
  stored : P s.store.contents
  copy : ∀ c, s.save = .saving c → P c

/-- A value lies on the grid of a record (R39). -/
def onGrid (r : ParamRecord) (v : Int) : Prop := ∃ k : Int, v = r.chgLo + k * r.quantum

/-- The bounds and steps of a record (R38, R43). -/
structure RecordSound (r : ParamRecord) : Prop where
  quantum : 1 ≤ r.quantum
  range : r.kind.inRange r.chgLo = true ∧ r.kind.inRange r.runLo = true ∧ r.kind.inRange r.runHi = true ∧
    r.kind.inRange r.chgHi = true
  order : r.chgLo ≤ r.runLo ∧ r.runLo ≤ r.runHi ∧ r.runHi ≤ r.chgHi
  grid : onGrid r r.runLo ∧ onGrid r r.runHi ∧ onGrid r r.chgHi
  steps : r.quantum ∣ r.stepUp ∧ r.quantum ∣ r.stepDown ∧ (r.stepUp : Int) ≤ r.chgHi - r.chgLo ∧
    (r.stepDown : Int) ≤ r.chgHi - r.chgLo
  criticality : 1 ≤ r.criticality ∧ r.criticality ≤ 7

/-- A bank: every record sound, no two with the same key (R43, R44). -/
structure BankSound (b : Bank) : Prop where
  records : ∀ (i : Fin 512) (r : ParamRecord), b[i] = some r → RecordSound r
  keys : ∀ (i j : Fin 512) (r r' : ParamRecord), b[i] = some r → b[j] = some r' → r.key = r'.key → i = j

def BanksSound : State → Prop := EverySettings fun st => BankSound st.bankA ∧ BankSound st.bankB

/-- No address is both a station's own and a gateway's, and no gateway and number pair appears twice (R25). -/
def stationsDistinct (st : Settings) : Prop :=
  ∀ i j : Fin 32, i ≠ j → st.stations[i].inUse = true → st.stations[j].inUse = true →
    st.stations[i].config.address = st.stations[j].config.address →
      st.stations[i].config.mode = .embedded ∧ st.stations[j].config.mode = .embedded ∧
        st.stations[i].config.embedded ≠ st.stations[j].config.embedded

def StationsSound : State → Prop := EverySettings stationsDistinct

/-- The record of a profile in use (R6, R7 checks 3 and 4). -/
structure ProfileSound (p : Profile) : Prop where
  order : p.byteOrder ≠ none
  frameType : 0x0600 ≤ p.frameType.toNat ∧ p.frameType ≠ 0x8100#16 ∧ p.frameType ≠ 0x8808#16
  lengths : 64 ≤ p.minLength.toNat ∧ p.minLength.toNat ≤ p.maxLength.toNat ∧ p.maxLength.toNat ≤ 1522
  optional : (∀ d, p.discriminator = some d → d.offset.toNat + 1 ≤ 1500) ∧
    (∀ w, p.stationField = some w → w.toNat + 1 ≤ 1500) ∧
    ∀ t, p.tagField = some t → t.offset.toNat + t.width.toNat ≤ 1500 ∧ (t.width = 1 ∨ t.width = 2)
  fixed : p.functionOffset.toNat + 1 ≤ 1500 ∧ p.areaOffset.toNat + 1 ≤ 1500 ∧ p.indexOffset.toNat + 2 ≤ 1500 ∧
    p.countOffset.toNat + 1 ≤ 1500 ∧ p.firstValueOffset.toNat + p.valueWidth.toNat ≤ 1500 ∧
    p.statusOffset.toNat + 1 ≤ 1500
  width : p.valueWidth = 2 ∨ p.valueWidth = 4
  timeout : p.replyTimeout ≠ 0
  codes : (p.functionMap.map (·.code)).Nodup
  writes : (∃ e ∈ p.functionMap, e.cls = .write) → p.tagField ≠ none

/-- Every setting within its range: the profiles in use, no two of one frame type and discriminator (R7), the addresses of the
stations in use (R24), the alarm mask (R150), the hold-off (R118), the shares (R137), the management type (R168), the
promotion slots (R154), the manager list (R162) and the notice address (R154). -/
structure RangesGood (own : Mac) (st : Settings) : Prop where
  profiles : ∀ i : Fin 4, st.profiles[i].inUse = true → ProfileSound st.profiles[i]
  profilesDiffer : ∀ i j : Fin 4, i ≠ j → st.profiles[i].inUse = true → st.profiles[j].inUse = true →
    st.profiles[i].frameType = st.profiles[j].frameType → st.profiles[i].discriminator ≠ st.profiles[j].discriminator
  addresses : ∀ n : Fin 32, st.stations[n].inUse = true →
    isGroup st.stations[n].config.address = false ∧ st.stations[n].config.address ≠ own
  mask : st.alarmMask ≤ 6
  holdOff : st.holdOff ≤ 600
  shares : 1 ≤ st.plant.share ∧ st.plant.share ≤ 16 ∧ 1 ≤ st.line.share ∧ st.line.share ≤ 16
  managementType : 0x0600 ≤ st.managementType.toNat ∧ st.managementType ≠ 0x8100#16 ∧ st.managementType ≠ 0x8808#16
  promotion : ∀ k : EventKind, st.promotionA = some k ∨ st.promotionB = some k →
    k ≠ .envelopeBreach ∧ k ≠ .storeInvalid ∧ k ≠ .forced
  slotsDiffer : st.promotionA = st.promotionB → st.promotionA = none
  managers : ∀ (i : Fin 4) (m : Mac), st.managers[i] = some m →
    isGroup m = false ∧ m ≠ own ∧ ∀ j : Fin 4, st.managers[j] = some m → j = i
  notice : ∀ d, st.notice = some d → d.address ≠ own

/-- Every setting within its range, both run counts in 0..16 (R137), and the store without its mark while a save runs
(R172). -/
structure RangesSound (s : State) : Prop where
  settings : EverySettings (RangesGood s.identity.address) s
  runCounts : s.portP.runCount ≤ 16 ∧ s.portL.runCount ≤ 16
  save : s.saving = true → s.store.mark = false

/-- The configuration tables of two settings agree: everything but the lock and the station states (R164). -/
def sameTables (a b : Settings) : Prop :=
  a = { b with lock := a.lock, stations := a.stations } ∧
  ∀ n : Fin 32, a.stations[n] = { b.stations[n] with state := a.stations[n].state }

/-! ### Commands by what they may carry -/

/-- The command carries, or may be the arrival of a frame that carries, a version 1 request of kind octet `k`. -/
def mayCarry (k : RequestKind) : Instr → Bool
  | .frameArrival _ _ _ f =>
    decide (octetAt (payload f) 0 = Config.protocolVersion) && decide (octetAt (payload f) 1 = k.code)
  | .unknownRequest version kind _ => decide (version = Config.protocolVersion) && decide (kind = k.code)
  | i => match i.carried with
    | some q => decide (i = k.command q)
    | none => false

/-- RESET, the cold start and the loss of the supply: the commands that clear what a warm start keeps (R175, R177). -/
def clearsAll : Instr → Bool
  | .resetAsserted | .coldStart | .powerLoss => true
  | _ => false

/-- Everything a state may be checked for at reset and after every step. -/
structure Sound (s : State) : Prop where
  events : EventUnitSound s
  table : TableSound s
  image : ImageSound s
  marks : MarksSound s
  queues : QueuesSound s
  window : WindowSound s
  service : ServiceSound s
  banks : BanksSound s
  stations : StationsSound s
  ranges : RangesSound s

end Sys2Proof.Machine
end

