-- ==== Sys2Proof/Certificates/Slice0/Obligations.lean ====
section
/-! DEFINITION. The statements for the provers. Where a statement names a request, `Served k q s` says that it reaches the
responder at the present time `q.time` and passes the checks before its owning rule, and `replied` that its reply is
handed over; where it names another command at time `t`, the part runs and `t` is not past, so that `t` is the present time.
-/

open Sys2Proof Sys2Proof.Machine

/-! ### The step and the responder -/

/-- A step takes the command at the front of the queue. On an empty queue the part idles (the model's choice,
notes/assumptions/2.md). -/
def Obligations.StepTakesFrontCommand : Prop :=
  (∀ (c : Instr) (rest : List Instr) (s : State),
    step { s with pending := c :: rest } = exec c { s with pending := rest }) ∧
  ∀ s : State, s.pending = [] → step s = .next s

/-- Every command answers a next state, in which the commands that wait and the part's identity are as they were: no request
changes the identity and no start alters it (part of R165). -/
def Obligations.EveryCommandAnswersNext : Prop :=
  ∀ (c : Instr) (s : State), ∃ t : State, exec c s = .next t ∧ t.pending = s.pending ∧ t.identity = s.identity

/-- A management frame that carries a request is the request: the arrival, on a port that receives, of the frame that carries
a well-formed request of the directory does exactly what the request's command does (part of R158, R159; that both are one
step is notes/assumptions/9.md). -/
def Obligations.ManagementFrameIsItsRequest : Prop :=
  ∀ (k : RequestKind) (q : Request) (s : State), q.wellFormed = true →
    s.settings.managementType ≠ 0x8100#16 → s.settings.managementType ≠ 0x8808#16 →
    exec (.frameArrival q.time q.port true
      (requestFrame s.identity.address s.settings.managementType Config.protocolVersion k.code q)) s =
    exec (k.command q) s

/-- The checks that come before the owning rule, in their order, for every request of the directory: a waiting RESTART
answers BUSY before all else, then BAD-LENGTH, NOT-MANAGER, KEY-POSITION or LOCKED, and BUSY in a save (R160 steps 2 to 5,
part of R161, R167); the key position and lock each class needs, and which need a manager (R164); and the rows of the
directory: kind, argument length, class, and BUSY during a save. A requester is a manager when every entry of the manager
list is empty, or when its address is that of a non-empty entry (R162). The order of the event and the reply is
notes/assumptions/10.md. -/
def Obligations.RequestChecksInOrder : Prop :=
  (allKinds.map fun k => (k, k.code.toNat, k.argLength, k.privilege, k.busyInSave)) =
    [(.readIdentity, 0x01, 0, .open_, false), (.readStatus, 0x02, 0, .open_, false),
      (.loadProfile, 0x03, 85, .table, true), (.readProfile, 0x04, 1, .open_, false),
      (.loadStation, 0x05, 13, .table, true), (.readStation, 0x06, 1, .open_, false),
      (.clearStation, 0x07, 1, .table, true), (.loadAreaPolicy, 0x08, 4, .table, true),
      (.readCounters, 0x09, 1, .open_, false), (.clearCounters, 0x0A, 1, .manager, false),
      (.loadParameter, 0x0B, 36, .staged, true), (.clearParameter, 0x0C, 2, .staged, true),
      (.readParameter, 0x0D, 3, .open_, false), (.copyActiveToStaged, 0x0E, 0, .staged, true),
      (.markStagedReady, 0x0F, 0, .staged, true), (.activateStaged, 0x10, 0, .table, true),
      (.readImage, 0x11, 3, .open_, false), (.forgetImage, 0x12, 2, .staged, false),
      (.openWindow, 0x13, 2, .manager, false), (.extendWindow, 0x14, 2, .manager, false),
      (.closeWindow, 0x15, 0, .manager, false), (.grantService, 0x16, 1, .manager, false),
      (.endService, 0x17, 1, .manager, false), (.quarantineStation, 0x18, 1, .manager, false),
      (.releaseStation, 0x19, 1, .manager, false), (.takeEvent, 0x1A, 0, .manager, false),
      (.forceEvent, 0x1B, 9, .key, false), (.setEventControl, 0x1C, 47, .table, true),
      (.lockTables, 0x1D, 0, .manager, true), (.unlockTables, 0x1E, 0, .key, true),
      (.setManagers, 0x1F, 24, .recovery, true), (.setPortSettings, 0x20, 6, .table, true),
      (.setWindowSettings, 0x21, 3, .table, true), (.saveSettings, 0x22, 0, .table, true),
      (.restart, 0x23, 0, .table, true)] ∧
  (∀ k : RequestKind, k ∈ allKinds) ∧
  (∀ c : Privilege, c.needsManager = true ↔ c ≠ .open_ ∧ c ≠ .recovery) ∧
  (∀ (managers : Vector (Option Mac) 4) (m : Mac), isManager managers m = true ↔
    (∀ i : Fin 4, managers[i] = none) ∨ ∃ i : Fin 4, managers[i] = some m) ∧
  (∀ s : State, (s.keyPosition = s.key.taken.position) ∧ (s.saving = true ↔ ∃ copy, s.save = .saving copy)) ∧
  (∀ (pos : KeyPosition) (lock : Lock),
    Privilege.open_.keyRefusal pos lock = none ∧ Privilege.manager.keyRefusal pos lock = none ∧
    Privilege.table.keyRefusal pos lock = (if lock = .locked ∧ pos ≠ .service then some .locked else none) ∧
    Privilege.staged.keyRefusal pos lock = (if lock = .locked ∧ pos = .run then some .locked else none) ∧
    Privilege.key.keyRefusal pos lock = (if pos ≠ .service then some .keyPosition else none) ∧
    Privilege.recovery.keyRefusal pos lock = (if pos ≠ .service then some .keyPosition else none)) ∧
  ∀ (k : RequestKind) (q : Request) (s : State), s.hears q →
    (s.restartPending = true → exec (k.command q) s = .next (s.denied k q .busy)) ∧
    (s.restartPending = false → ¬ lengthSuits k q → exec (k.command q) s = .next (s.denied k q .badLength)) ∧
    (s.restartPending = false → lengthSuits k q → ¬ managerSuits k q s →
      exec (k.command q) s = .next (s.denied k q .notManager)) ∧
    (∀ c, s.restartPending = false → lengthSuits k q → managerSuits k q s →
      k.privilege.keyRefusal s.keyPosition s.settings.lock = some c → exec (k.command q) s = .next (s.denied k q c)) ∧
    (s.restartPending = false → lengthSuits k q → managerSuits k q s →
      k.privilege.keyRefusal s.keyPosition s.settings.lock = none → k.busyInSave = true → s.saving = true →
      exec (k.command q) s = .next (s.denied k q .busy))

/-- A request that its owning rule refuses changes nothing and carries no result data, and it is answered as every refusal
is: for every request of the directory that passes the checks before its owning rule (part of R160, R161). -/
def Obligations.RefusedRequestChangesNothing : Prop :=
  ∀ (k : RequestKind) (q : Request) (s : State), Served k q s →
    (ownRule k q { s with now := q.time }).code ≠ .ok →
    exec (k.command q) s = .next (s.denied k q (ownRule k q { s with now := q.time }).code)

/-- A request that does not reach the responder: from a group address it is counted as stray and answered by nothing; on a
port that is DOWN since an earlier moment (notes/assumptions/25.md), during a settings load, in RESET or without supply, it
is not received at all (part of R158, R1, R175). A group address has the least significant bit of its first octet set. And an
unknown request: another version, or a kind the directory does not hold, is answered UNKNOWN-REQUEST under the kind it gave,
raising nothing and changing nothing; while an accepted RESTART waits, BUSY (R160 step 1, part of R161, R167). -/
def Obligations.UnheardAndUnknownRequests : Prop :=
  (∀ a : Mac, isGroup a = true ↔ a.toNat / 2 ^ 40 % 2 = 1) ∧
  (∀ version kind : Octet, inDirectory version kind = true ↔ version = 1 ∧ ∃ k : RequestKind, k.code = kind) ∧
  (∀ (k : RequestKind) (q : Request) (s : State),
    (s.ready q.port q.time → isGroup q.requester = true →
      exec (k.command q) s = .next ({ s with now := q.time }.countStray q.port)) ∧
    (s.phase = .running → s.now ≤ q.time → (s.port q.port).up = false → (s.port q.port).lostAt ≠ some q.time →
      exec (k.command q) s = .next { s with now := q.time }) ∧
    (s.phase.loading = true → s.now ≤ q.time → exec (k.command q) s = .next { s with now := q.time }) ∧
    (s.phase.alive = false → exec (k.command q) s = .next s)) ∧
  ∀ (version kind : Octet) (q : Request) (s : State), s.hears q → inDirectory version kind = false →
    exec (.unknownRequest version kind q) s =
      .next ({ s with now := q.time }.handOver q.port .ordinary
        (partFrame (formFrame q.requester s.identity.address q.tci s.settings.managementType
          (replyContent (kind ||| 0x80#8) q.number
            (if s.restartPending then ResultCode.busy.code else ResultCode.unknownRequest.code) [])) false))

/-- The frame of a reply or a notice: it passes the arrival checks of any port, it is addressed to the requester from the
part, it carries the request's tag and the given type, and its payload holds the content given, then zero octets. That
content is the version 1, the kind, the request number, the result code, the exact number of result octets in two octets,
most significant first, and the result itself (part of R158, R179; chapter 12, *Requests and replies*). -/
def Obligations.ReplyFrameIsWellFormed : Prop :=
  (∀ (kind number code : Octet) (result : List Octet), result.length < 65536 →
    let c := replyContent kind number code result
    c.length = 6 + result.length ∧ octetAt c 0 = 1 ∧ octetAt c 1 = kind ∧ octetAt c 2 = number ∧ octetAt c 3 = code ∧
    beNat (slice c 4 2) = result.length ∧ c.drop 6 = result) ∧
  ∀ (dst src : Mac) (tci : Option Word16) (type : Word16) (content : List Octet),
    content.length ≤ 1500 → type ≠ 0x8100#16 →
    let f := formFrame dst src tci type content
    fcsGood f = true ∧ 64 ≤ f.length ∧ f.length ≤ 1522 ∧ frameDestination f = dst ∧ frameSource f = src ∧
    frameTci f = tci ∧ frameType f = type ∧
    payload f = content ++ List.replicate ((payload f).length - content.length) 0#8 ∧
    ((payload f).length = content.length ∨ f.length = 64)

/-- The reading requests answer OK with what they read and change nothing else: READ IDENTITY, READ STATUS, READ PROFILE,
READ STATION, READ COUNTERS, READ PARAMETER and READ IMAGE; an entry above 31, a bank or slot that is none, or an image range
of 0 slots, more than 32 or past slot 511, is BAD-VALUE (R28, R49; part of R7, R37, R88, R165, R166). Each of the 28 octets
of every slot READ IMAGE answers stands where the layout puts it (chapter 12, *Image slot entry*). What a profile answers for
its map entries beyond the count is notes/assumptions/11.md, and for the byte order of a profile never loaded
notes/assumptions/12.md. -/
def Obligations.ReadingRequestsAnswer : Prop :=
  ∀ (q : Request) (s : State),
    let t : State := { s with now := q.time }
    (Served .readIdentity q s → exec (.readIdentity q) s = .next (t.replied s .readIdentity q .ok
      ([0x41#8, 0x47#8, 0x34#8, 0x33#8, 0x32#8] ++ [s.identity.revision] ++ beOctets 8 s.identity.uniqueNumber.toNat ++
        beOctets 6 s.identity.address.toNat))) ∧
    (Served .readStatus q s → exec (.readStatus q) s = .next (t.replied s .readStatus q .ok (statusOctets t))) ∧
    (∀ n : Fin 4, Served .readProfile q s → argsOf q = [BitVec.ofNat 8 n.val] →
      exec (.readProfile q) s = .next (t.replied s .readProfile q .ok
        ([BitVec.ofNat 8 n.val] ++ profileOctets s.settings.profiles[n]))) ∧
    (∀ n : Fin 32, Served .readStation q s → argsOf q = [BitVec.ofNat 8 n.val] →
      exec (.readStation q) s = .next (t.replied s .readStation q .ok
        ([BitVec.ofNat 8 n.val, boolCode (s.station n).inUse] ++ stationConfigOctets (s.station n).config ++
          [(s.station n).state.code] ++ (s.station n).policies.toList.flatMap policyOctets))) ∧
    (Served .readStation q s → 31 < (octetAt (argsOf q) 0).toNat →
      exec (.readStation q) s = .next (s.denied .readStation q .badValue)) ∧
    (∀ n : Fin 32, Served .readCounters q s → argsOf q = [BitVec.ofNat 8 n.val] →
      exec (.readCounters q) s = .next (t.replied s .readCounters q .ok
        ([BitVec.ofNat 8 n.val] ++ beOctets 2 s.counters[n].admitted.toNat ++ beOctets 2 s.counters[n].clamped.toNat ++
          beOctets 2 s.counters[n].refused.toNat ++ beOctets 2 s.counters[n].drift.toNat))) ∧
    (∀ (b : BankId) (i : Fin 512), Served .readParameter q s → argsOf q = [b.code] ++ beOctets 2 i.val →
      exec (.readParameter q) s = .next (t.replied s .readParameter q .ok
        ([b.code, if b = s.settings.active then 1 else 2] ++ beOctets 2 i.val ++
          match (s.settings.bank b)[i] with
          | some r => [1] ++ paramOctets r
          | none => List.replicate 35 0))) ∧
    (Served .readParameter q s → (BankId.ofCode (octetAt (argsOf q) 0) = none ∨ 511 < beNat (slice (argsOf q) 1 2)) →
      exec (.readParameter q) s = .next (s.denied .readParameter q .badValue)) ∧
    (Served .readImage q s → (511 < beNat ((argsOf q).take 2) ∨ octetAt (argsOf q) 2 = 0 ∨ 32 < (octetAt (argsOf q) 2).toNat ∨
        512 < beNat ((argsOf q).take 2) + (octetAt (argsOf q) 2).toNat) →
      exec (.readImage q) s = .next (s.denied .readImage q .badValue)) ∧
    (∀ first count : Nat, 1 ≤ count → count ≤ 32 → first + count ≤ 512 → Served .readImage q s →
      argsOf q = beOctets 2 first ++ [BitVec.ofNat 8 count] →
      exec (.readImage q) s = .next (t.replied s .readImage q .ok
        ([BitVec.ofNat 8 count] ++ imageRange s first count))) ∧
    (∀ first count : Nat, first + count ≤ 512 → (imageRange s first count).length = 28 * count ∧
      ∀ (k : Nat) (i : Fin 512), k < count → i.val = first + k →
        let o := slice (imageRange s first count) (28 * k) 28
        let num := fun at_ n => beNat (slice o at_ n)
        let wide := fun v : Int => v % 2 ^ 64
        num 0 2 = i.val ∧
        (octetAt o 2, (octetAt o 3).toNat, (octetAt o 4).toNat, num 5 2) = (match s.settings.activeBank[i] with
          | some r => (1#8, r.key.station.val, r.key.area.val, r.key.index.toNat)
          | none => (0#8, 0, 0, 0)) ∧
        (octetAt o 7, octetAt o 8, (num 9 8 : Int), (num 17 8 : Int), (octetAt o 25).toNat, num 26 2) =
          match s.image[i] with
          | .unknown => (1#8, 0#8, 0, 0, 0, 0)
          | .known c => (2#8, 1#8, wide c, 0, 0, 0)
          | .pending none v x => (3#8, 0#8, 0, wide v, x.station.val, x.tag.toNat)
          | .pending (some c) v x => (3#8, 1#8, wide c, wide v, x.station.val, x.tag.toNat))

/-- The status result has 109 octets, and each field stands where the layout puts it (chapter 12, *Status result*; R155). The
seconds remaining are those to the deadline of an OPEN window or of hold-off, rounded up, and 0 while SHUT or DRAINING
(R129); a deadline whose command has not yet come leaves 0 of them (notes/assumptions/1.md). -/
def Obligations.StatusResultLayout : Prop :=
  ∀ s : State,
    let o := statusOctets s
    let link := fun up : Bool => if up then 1#8 else 2#8
    o.length = 109 ∧ octetAt o 0 = s.keyPosition.code ∧ octetAt o 1 = boolCode (decide (s.key.taken = .fault)) ∧
    octetAt o 2 = s.lineIn.taken.code ∧ octetAt o 3 = s.window.code ∧
    ([.run, .changeover, .service] : List KeyPosition).map (·.code) = [1, 2, 3] ∧ LineState.running.code = 1 ∧
    LineState.stopped.code = 2 ∧ (∀ a b : Nat, ([.shut, .opened a b, .draining, .holdOff a] : List Window).map (·.code) =
      [1, 2, 3, 4]) ∧ Lock.unlocked.code = 1 ∧ Lock.locked.code = 2 ∧
    beNat (slice o 4 2) = (match s.window with
      | .opened _ d | .holdOff d => (d - s.now + 999999999) / 1000000000
      | .shut | .draining => 0) % 65536 ∧
    octetAt o 6 = s.settings.active.code ∧ octetAt o 7 = boolCode s.settings.stagedReady ∧
    octetAt o 8 = s.settings.lock.code ∧
    octetAt o 9 = (match s.save with | .idle => 1 | .saving _ => 2 | .failed => 3) ∧
    octetAt o 10 = boolCode (s.store.mark && s.store.checkAgrees) ∧ octetAt o 11 = boolCode s.alarm ∧
    octetAt o 12 = boolCode s.trip ∧ octetAt o 13 = BitVec.ofNat 8 s.events.length ∧
    beNat (slice o 14 2) = s.lost.toNat ∧
    (∀ g : Fin 4, octetAt o (16 + g.val) = 1 ↔ ∃ e ∈ s.events, ∃ n : Fin 32, e.station = some n ∧ n.val / 8 = g.val) ∧
    octetAt o 20 = BitVec.ofNat 8 s.txns.length ∧ beNat (slice o 21 4) = s.unmatched.toNat ∧
    octetAt o 25 = link s.portP.up ∧ octetAt o 26 = link s.portL.up ∧
    ((List.range 19).map fun i => beNat (slice o (27 + 4 * i) 4)) =
      [s.portP.arrival.fcsErrors, s.portP.arrival.lengthErrors, s.portP.arrival.strayManagement,
        s.portP.arrival.foreignDrops, s.portL.arrival.fcsErrors, s.portL.arrival.lengthErrors,
        s.portL.arrival.strayManagement, s.portL.arrival.foreignDrops, s.malformed,
        s.portP.egress.expressFullDrops, s.portP.egress.ordinaryFullDrops, s.portP.egress.downDrops,
        s.portP.egress.lostPartFrames, s.portP.egress.framesSent, s.portL.egress.expressFullDrops,
        s.portL.egress.ordinaryFullDrops, s.portL.egress.downDrops, s.portL.egress.lostPartFrames,
        s.portL.egress.framesSent].map (·.toNat) ∧
    octetAt o 103 = BitVec.ofNat 8 s.portP.express.length ∧ octetAt o 104 = BitVec.ofNat 8 s.portP.ordinary.length ∧
    octetAt o 105 = BitVec.ofNat 8 s.portL.express.length ∧ octetAt o 106 = BitVec.ofNat 8 s.portL.ordinary.length ∧
    octetAt o 107 = BitVec.ofNat 8 s.portP.runCount ∧ octetAt o 108 = BitVec.ofNat 8 s.portL.runCount

/-! ### Records as they are carried -/

/-- A parameter record whose numbers lie in their ranges is read back from its 34 octets; a station configuration, its
embedded number 0 in ADDRESS mode, from its 12; and a profile with a listed byte order and at most sixteen map entries from
its 84; each field stands where the layout puts it, and each coded field holds its listed code. Read from any octets, each
field is what its octets carry: an optional field is absent where its presence octet is 0, map entries beyond the count are
ignored (notes/assumptions/11.md), and a parameter record is read exactly where every field of it is in its range (part of
R178, R24, R42). -/
def Obligations.RecordsRoundTrip : Prop :=
  let num := fun (o : List Octet) at_ n => beNat (slice o at_ n)
  (∀ r : ParamRecord, RecordSound r → r.quantum ≤ 65535 →
    (paramOctets r).length = 34 ∧ readParamRecord (paramOctets r) = some r) ∧
  (∀ c : StationConfig, (c.mode = .address → c.embedded = 0) →
    (stationConfigOctets c).length = 12 ∧ readStationConfig (stationConfigOctets c) = some c) ∧
  (∀ p : Profile, p.byteOrder ≠ none → p.functionMap.length ≤ 16 →
    (profileOctets p).length = 84 ∧ readProfileRecord (profileOctets p) = some p) ∧
  (∀ r : ParamRecord,
    let o := paramOctets r
    (octetAt o 0).toNat = r.key.station.val ∧ (octetAt o 1).toNat = r.key.area.val ∧ num o 2 2 = r.key.index.toNat ∧
    octetAt o 4 = r.kind.code ∧ (num o 5 4 : Int) = r.runLo % 2 ^ 32 ∧ (num o 9 4 : Int) = r.runHi % 2 ^ 32 ∧
    (num o 13 4 : Int) = r.chgLo % 2 ^ 32 ∧ (num o 17 4 : Int) = r.chgHi % 2 ^ 32 ∧ octetAt o 21 = boolCode r.stepLimits ∧
    num o 22 4 = r.stepUp % 2 ^ 32 ∧ num o 26 4 = r.stepDown % 2 ^ 32 ∧ num o 30 2 = r.quantum % 2 ^ 16 ∧
    octetAt o 32 = r.policy.code ∧ (octetAt o 33).toNat = r.criticality % 256) ∧
  (∀ c : StationConfig,
    let o := stationConfigOctets c
    octetAt o 0 = c.mode.code ∧ num o 1 6 = c.address.toNat ∧ octetAt o 7 = c.embedded ∧
    (octetAt o 8).toNat = c.profile.val ∧ octetAt o 9 = boolCode c.member ∧ octetAt o 10 = boolCode c.quarantineOnBreach ∧
    octetAt o 11 = boolCode c.enters) ∧
  (∀ p : Profile, p.functionMap.length ≤ 16 →
    let o := profileOctets p
    octetAt o 0 = boolCode p.inUse ∧ num o 1 2 = p.frameType.toNat ∧
    (octetAt o 3, num o 4 2, octetAt o 6) = (match p.discriminator with
      | some d => (1#8, d.offset.toNat, d.value)
      | none => (0#8, 0, 0#8)) ∧
    (∀ b, p.byteOrder = some b → octetAt o 7 = b.code) ∧
    num o 8 2 = p.minLength.toNat ∧ num o 10 2 = p.maxLength.toNat ∧
    (octetAt o 12, num o 13 2) = (match p.stationField with
      | some w => (1#8, w.toNat)
      | none => (0#8, 0)) ∧
    (octetAt o 15, num o 16 2, octetAt o 18) = (match p.tagField with
      | some t => (1#8, t.offset.toNat, t.width)
      | none => (0#8, 0, 0#8)) ∧
    num o 19 2 = p.functionOffset.toNat ∧ num o 21 2 = p.areaOffset.toNat ∧ num o 23 2 = p.indexOffset.toNat ∧
    num o 25 2 = p.countOffset.toNat ∧ num o 27 2 = p.firstValueOffset.toNat ∧ octetAt o 29 = p.valueWidth ∧
    num o 30 2 = p.statusOffset.toNat ∧ octetAt o 32 = p.successStatus ∧ octetAt o 33 = p.replyTimeout ∧
    octetAt o 34 = boolCode p.rewritePermitted ∧ (octetAt o 35).toNat = p.functionMap.length ∧
    ∀ (k : Nat) (e : MapEntry), p.functionMap[k]? = some e →
      octetAt o (36 + 3 * k) = e.code ∧ octetAt o (37 + 3 * k) = e.cls.code ∧ octetAt o (38 + 3 * k) = e.role.code) ∧
  (∀ o : List Octet, (∃ r, readParamRecord o = some r) ↔
    (octetAt o 0).toNat ≤ 31 ∧ (octetAt o 1).toNat ≤ 15 ∧ 1 ≤ (octetAt o 4).toNat ∧ (octetAt o 4).toNat ≤ 4 ∧
    (octetAt o 21).toNat ≤ 1 ∧ 1 ≤ num o 30 2 ∧ 1 ≤ (octetAt o 32).toNat ∧ (octetAt o 32).toNat ≤ 2 ∧
    1 ≤ (octetAt o 33).toNat ∧ (octetAt o 33).toNat ≤ 7) ∧
  (∀ (o : List Octet) (r : ParamRecord), readParamRecord o = some r →
    r.key.station.val = (octetAt o 0).toNat ∧ r.key.area.val = (octetAt o 1).toNat ∧ r.key.index.toNat = num o 2 2 ∧
    r.kind.code = octetAt o 4 ∧ r.runLo = kindReads r.kind 4 (num o 5 4) ∧ r.runHi = kindReads r.kind 4 (num o 9 4) ∧
    r.chgLo = kindReads r.kind 4 (num o 13 4) ∧ r.chgHi = kindReads r.kind 4 (num o 17 4) ∧
    boolCode r.stepLimits = octetAt o 21 ∧ r.stepUp = num o 22 4 ∧ r.stepDown = num o 26 4 ∧ r.quantum = num o 30 2 ∧
    r.policy.code = octetAt o 32 ∧ r.criticality = (octetAt o 33).toNat) ∧
  (∀ (o : List Octet) (c : StationConfig), readStationConfig o = some c →
    c.mode.code = octetAt o 0 ∧ c.address.toNat = num o 1 6 ∧
    c.embedded = (if c.mode = .embedded then octetAt o 7 else 0) ∧ c.profile.val = (octetAt o 8).toNat ∧
    boolCode c.member = octetAt o 9 ∧ boolCode c.quarantineOnBreach = octetAt o 10 ∧ boolCode c.enters = octetAt o 11) ∧
  (∀ (o : List Octet) (p : Profile), readProfileRecord o = some p →
    boolCode p.inUse = octetAt o 0 ∧ p.frameType.toNat = num o 1 2 ∧
    p.discriminator = (if octetAt o 3 = 1 then some ⟨BitVec.ofNat 16 (num o 4 2), octetAt o 6⟩ else none) ∧
    (∃ b, p.byteOrder = some b ∧ b.code = octetAt o 7) ∧ p.minLength.toNat = num o 8 2 ∧ p.maxLength.toNat = num o 10 2 ∧
    p.stationField = (if octetAt o 12 = 1 then some (BitVec.ofNat 16 (num o 13 2)) else none) ∧
    p.tagField = (if octetAt o 15 = 1 then some ⟨BitVec.ofNat 16 (num o 16 2), octetAt o 18⟩ else none) ∧
    p.functionOffset.toNat = num o 19 2 ∧ p.areaOffset.toNat = num o 21 2 ∧ p.indexOffset.toNat = num o 23 2 ∧
    p.countOffset.toNat = num o 25 2 ∧ p.firstValueOffset.toNat = num o 27 2 ∧ p.valueWidth = octetAt o 29 ∧
    p.statusOffset.toNat = num o 30 2 ∧ p.successStatus = octetAt o 32 ∧ p.replyTimeout = octetAt o 33 ∧
    boolCode p.rewritePermitted = octetAt o 34 ∧ p.functionMap.length = (octetAt o 35).toNat ∧
    ∀ (k : Nat) (e : MapEntry), p.functionMap[k]? = some e →
      e.code = octetAt o (36 + 3 * k) ∧ e.cls.code = octetAt o (37 + 3 * k) ∧ e.role.code = octetAt o (38 + 3 * k)) ∧
  (∀ a : AreaPolicy, policyOctets a = [a.unlisted.code, a.read.code]) ∧
  (boolCode false = 0 ∧ boolCode true = 1 ∧ portCode .P = 1 ∧ portCode .L = 2) ∧
  ([.cyclic, .read, .write, .control, .program, .other] : List FrameClass).map (·.code) = [1, 2, 3, 4, 5, 6] ∧
  ([.request, .reply] : List Role).map (·.code) = [1, 2] ∧
  ([.big, .little] : List ByteOrder).map (·.code) = [1, 2] ∧
  ([.address, .embedded] : List IdMode).map (·.code) = [1, 2] ∧
  ([.normal, .service, .quarantined] : List StationState).map (·.code) = [1, 2, 3] ∧
  ([.pass, .window, .refuse] : List UnlistedVerdict).map (·.code) = [1, 2, 3] ∧
  ([.pass, .refuse] : List ReadVerdict).map (·.code) = [1, 2] ∧
  ([.s16, .u16, .s32, .u32] : List Kind).map (·.code) = [1, 2, 3, 4] ∧
  ([.clamp, .refuse] : List Policy).map (·.code) = [1, 2] ∧
  ([.A, .B] : List BankId).map (·.code) = [1, 2] ∧
  ([.pass, .drop] : List ForeignPolicy).map (·.code) = [1, 2] ∧
  (∀ t : TriggerSet, (t.code).toNat = t.lineStart.toNat + 2 * t.level7.toNat + 4 * t.drift.toNat + 8 * t.timeout.toNat +
    16 * t.link.toNat) ∧
  ([.ok, .unknownRequest, .badLength, .badValue, .notManager, .keyPosition, .locked, .busy, .wrongState, .duplicate] :
    List ResultCode).map (·.code) = [0, 1, 2, 3, 4, 5, 6, 7, 8, 9]

/-! ### Profiles and stations -/

/-- LOAD PROFILE of profile 0..3, by the checks of R7 in their order: BUSY while a transaction of an in-use station that
names the profile is in flight; BAD-VALUE where a coded octet holds no listed code; a record not in use then replaces the
profile; one in use is BAD-VALUE where it breaks a limit, DUPLICATE where another profile in use has its frame type and
discriminator, and else replaces the profile. Nothing else changes (part of R7). -/
def Obligations.LoadProfileReplaces : Prop :=
  ∀ (n : Fin 4) (q : Request) (s : State), Served .loadProfile q s → octetAt (argsOf q) 0 = BitVec.ofNat 8 n.val →
    let o := (argsOf q).drop 1
    let yesNo := fun i => octetAt o i = 0 ∨ octetAt o i = 1
    let coded := yesNo 0 ∧ yesNo 3 ∧ (octetAt o 7 = 1 ∨ octetAt o 7 = 2) ∧ yesNo 12 ∧ yesNo 15 ∧ yesNo 34 ∧
      (octetAt o 35).toNat ≤ 16 ∧ ∀ i, i < (octetAt o 35).toNat →
        1 ≤ (octetAt o (37 + 3 * i)).toNat ∧ (octetAt o (37 + 3 * i)).toNat ≤ 6 ∧
        (octetAt o (38 + 3 * i) = 1 ∨ octetAt o (38 + 3 * i) = 2)
    let busy := ∃ t ∈ s.txns, (s.station t.ref.station).inUse = true ∧ (s.station t.ref.station).config.profile = n
    let refused := fun c => exec (.loadProfile q) s = .next (s.denied .loadProfile q c)
    (busy → refused .busy) ∧
    (¬ busy → ¬ coded → refused .badValue) ∧
    (¬ busy → coded → ∃ p : Profile, readProfileRecord o = some p ∧
      let clash := ∃ i : Fin 4, i ≠ n ∧ s.settings.profiles[i].inUse = true ∧
        s.settings.profiles[i].frameType = p.frameType ∧ s.settings.profiles[i].discriminator = p.discriminator
      (p.inUse = true → ¬ ProfileSound p → refused .badValue) ∧
      (p.inUse = true → ProfileSound p → clash → refused .duplicate) ∧
      ((p.inUse = true → ProfileSound p ∧ ¬ clash) → exec (.loadProfile q) s = .next
        ({ s with now := q.time, settings := { s.settings with profiles := s.settings.profiles.set n p } }.replied s
          .loadProfile q .ok [])))

/-- LOAD STATION, CLEAR STATION, LOAD AREA POLICY and CLEAR COUNTERS: accepted, each writes its own part of its entry and
nothing else. With transactions in flight LOAD STATION and CLEAR STATION are BUSY; a bad configuration is then BAD-VALUE and
a configuration that another in-use entry excludes DUPLICATE; an entry in quarantine is not cleared; an area above 15 is
BAD-VALUE, then an entry not in use WRONG-STATE, then a verdict that is none BAD-VALUE (R26; part of R24, R25, R27, R36,
R37). -/
def Obligations.StationTableRequestsWrite : Prop :=
  ∀ (n : Fin 32) (q : Request) (s : State), octetAt (argsOf q) 0 = BitVec.ofNat 8 n.val →
    let e := s.station n
    let put := fun e' : StationEntry =>
      { s with now := q.time, settings := { s.settings with stations := s.settings.stations.set n e' } }
    let o := (argsOf q).drop 1
    let busy := ∃ t ∈ s.txns, t.ref.station = n
    let good := (octetAt o 0 = 1 ∨ octetAt o 0 = 2) ∧ (octetAt o 8).toNat ≤ 3 ∧ (octetAt o 9).toNat ≤ 1 ∧
      (octetAt o 10).toNat ≤ 1 ∧ (octetAt o 11).toNat ≤ 1 ∧ isGroup (macAt o 1) = false ∧ macAt o 1 ≠ s.identity.address
    let excluded := fun c : StationConfig => ∃ i : Fin 32, i ≠ n ∧ (s.station i).inUse = true ∧
      (s.station i).config.address = c.address ∧
      ¬ ((s.station i).config.mode = .embedded ∧ c.mode = .embedded ∧ (s.station i).config.embedded ≠ c.embedded)
    (Served .loadStation q s → busy → exec (.loadStation q) s = .next (s.denied .loadStation q .busy)) ∧
    (Served .loadStation q s → ¬ busy → ¬ good → exec (.loadStation q) s = .next (s.denied .loadStation q .badValue)) ∧
    (good → ∃ c, readStationConfig o = some c ∧ c.address = macAt o 1) ∧
    (∀ c : StationConfig, Served .loadStation q s → readStationConfig o = some c → ¬ busy → good → excluded c →
      exec (.loadStation q) s = .next (s.denied .loadStation q .duplicate)) ∧
    (∀ c : StationConfig, Served .loadStation q s → readStationConfig o = some c → ¬ busy → good → ¬ excluded c →
      exec (.loadStation q) s = .next ((put
        { e with
          inUse := true
          config := c
          state := if e.inUse = true ∧ e.state = .quarantined then .quarantined else .normal }).replied s .loadStation q .ok [])) ∧
    (Served .clearStation q s → busy → exec (.clearStation q) s = .next (s.denied .clearStation q .busy)) ∧
    (Served .clearStation q s → ¬ busy → e.state = .quarantined →
      exec (.clearStation q) s = .next (s.denied .clearStation q .wrongState)) ∧
    (Served .clearStation q s → ¬ busy → e.state ≠ .quarantined →
      exec (.clearStation q) s = .next ((put
        { e with
          inUse := false
          state := .normal
          policies := Vector.replicate 16 ⟨.refuse, .pass⟩ }).replied s .clearStation q .ok [])) ∧
    (Served .loadAreaPolicy q s → 15 < (octetAt (argsOf q) 1).toNat →
      exec (.loadAreaPolicy q) s = .next (s.denied .loadAreaPolicy q .badValue)) ∧
    (Served .loadAreaPolicy q s → (octetAt (argsOf q) 1).toNat ≤ 15 → e.inUse = false →
      exec (.loadAreaPolicy q) s = .next (s.denied .loadAreaPolicy q .wrongState)) ∧
    (Served .loadAreaPolicy q s → (octetAt (argsOf q) 1).toNat ≤ 15 → e.inUse = true →
      ((∀ u : UnlistedVerdict, octetAt (argsOf q) 2 ≠ u.code) ∨ ∀ r : ReadVerdict, octetAt (argsOf q) 3 ≠ r.code) →
      exec (.loadAreaPolicy q) s = .next (s.denied .loadAreaPolicy q .badValue)) ∧
    (∀ (a : Fin 16) (u : UnlistedVerdict) (r : ReadVerdict), Served .loadAreaPolicy q s → e.inUse = true →
      octetAt (argsOf q) 1 = BitVec.ofNat 8 a.val → octetAt (argsOf q) 2 = u.code → octetAt (argsOf q) 3 = r.code →
      exec (.loadAreaPolicy q) s = .next ((put { e with policies := e.policies.set a ⟨u, r⟩ }).replied s
        .loadAreaPolicy q .ok [])) ∧
    (Served .clearCounters q s → exec (.clearCounters q) s = .next
      ({ s with now := q.time, counters := s.counters.set n ⟨0, 0, 0, 0⟩ }.replied s .clearCounters q .ok []))

/-- The station-state requests on an entry 0..31: GRANT SERVICE, END SERVICE, QUARANTINE STATION (with its QUARANTINED event,
raised once) and RELEASE STATION change the state of their entry and no other table; GRANT SERVICE and RELEASE STATION are
KEY-POSITION with the key out of SERVICE, and then each is WRONG-STATE on an entry not in use or in another state than its
own (R29, R31, R33; part of R30). The order of an event and the reply is notes/assumptions/10.md. -/
def Obligations.StationStateRequestsAct : Prop :=
  ∀ (n : Fin 32) (q : Request) (s : State), argsOf q = [BitVec.ofNat 8 n.val] →
    let e := s.station n
    let put := fun v : StationState =>
      { s with
        now := q.time
        settings := { s.settings with stations := s.settings.stations.set n { s.station n with state := v } } }
    (Served .grantService q s → s.keyPosition ≠ .service →
      exec (.grantService q) s = .next (s.denied .grantService q .keyPosition)) ∧
    (Served .grantService q s → s.keyPosition = .service → (e.inUse = false ∨ e.state = .quarantined) →
      exec (.grantService q) s = .next (s.denied .grantService q .wrongState)) ∧
    (Served .grantService q s → s.keyPosition = .service → e.inUse = true → e.state ≠ .quarantined →
      exec (.grantService q) s = .next ((put .service).replied s .grantService q .ok [])) ∧
    (Served .endService q s → (e.inUse = false ∨ e.state ≠ .service) →
      exec (.endService q) s = .next (s.denied .endService q .wrongState)) ∧
    (Served .endService q s → e.inUse = true → e.state = .service →
      exec (.endService q) s = .next ((put .normal).replied s .endService q .ok [])) ∧
    (Served .quarantineStation q s → e.inUse = false →
      exec (.quarantineStation q) s = .next (s.denied .quarantineStation q .wrongState)) ∧
    (Served .quarantineStation q s → e.inUse = true → e.state ≠ .quarantined →
      exec (.quarantineStation q) s = .next
        (((put .quarantined).raise { kind := .quarantined, natural := 4, station := some n, reason := some .request }).replied
          s .quarantineStation q .ok [])) ∧
    (Served .quarantineStation q s → e.inUse = true → e.state = .quarantined →
      exec (.quarantineStation q) s = .next ({ s with now := q.time }.replied s .quarantineStation q .ok [])) ∧
    (Served .releaseStation q s → s.keyPosition ≠ .service →
      exec (.releaseStation q) s = .next (s.denied .releaseStation q .keyPosition)) ∧
    (Served .releaseStation q s → s.keyPosition = .service → (e.inUse = false ∨ e.state ≠ .quarantined) →
      exec (.releaseStation q) s = .next (s.denied .releaseStation q .wrongState)) ∧
    (Served .releaseStation q s → s.keyPosition = .service → e.inUse = true → e.state = .quarantined →
      exec (.releaseStation q) s = .next ((put .normal).replied s .releaseStation q .ok []))

/-- Station identification (R16, with the uniqueness of R25): the entry found is in use, names the profile and is found by
its own address, or by gateway and number where no ADDRESS entry of the profile has the address; and no other entry would be
found so. A group address identifies none. -/
def Obligations.IdentificationFindsTheOneStation : Prop :=
  ∀ (st : Settings) (prof : Fin 4) (a : Mac) (pl : List Octet), stationsDistinct st →
    let own := fun n : Fin 32 => st.stations[n].inUse = true ∧ st.stations[n].config.profile = prof ∧
      st.stations[n].config.mode = .address ∧ st.stations[n].config.address = a
    let behind := fun n : Fin 32 => st.stations[n].inUse = true ∧ st.stations[n].config.profile = prof ∧
      st.stations[n].config.mode = .embedded ∧ st.stations[n].config.address = a ∧
      ∃ w, st.profiles[prof].stationField = some w ∧ pl[w.toNat]? = some st.stations[n].config.embedded
    (isGroup a = true → identify st prof a pl = none) ∧
    (isGroup a = false → ∀ n : Fin 32, identify st prof a pl = some n ↔ own n ∨ behind n)

/-- Profile matching (R9): the frame's profile is the first in-use profile, in number order, whose frame type is the frame's
and whose discriminator, where it has one, lies in the payload and has its value; a frame that is not addressed to the part
and that no profile matches is foreign, and no other is. -/
def Obligations.FirstMatchingProfileWins : Prop :=
  ∀ (st : Settings) (type : Word16) (pl : List Octet),
    let fits := fun i : Fin 4 => st.profiles[i].inUse = true ∧ st.profiles[i].frameType = type ∧
      (st.profiles[i].discriminator = none ∨
        ∃ d, st.profiles[i].discriminator = some d ∧ pl[d.offset.toNat]? = some d.value)
    (∀ i : Fin 4, matchProfile st type pl = some i ↔ fits i ∧ ∀ j : Fin 4, j < i → ¬ fits j) ∧
    (matchProfile st type pl = none ↔ ∀ i : Fin 4, ¬ fits i) ∧
    ∀ (own : Mac) (port : Port) (f : List Octet), frameType f = type → payload f = pl → frameDestination f ≠ own →
      (classifyAccepted st own port f = .foreign ↔ ∀ i : Fin 4, ¬ fits i)

/-! ### Recipe banks -/

/-- The requests of class STAGED accepted: LOAD PARAMETER, CLEAR PARAMETER, COPY ACTIVE TO STAGED and MARK STAGED READY
change the staged bank and the staged-ready mark, FORGET IMAGE makes a slot UNKNOWN unless it is PENDING (then BUSY), and
none changes anything else; CLEAR PARAMETER and FORGET IMAGE of a slot above 511 are BAD-VALUE (R45 to R48; part of R41, R42,
R89). -/
def Obligations.StagedClassRequestsAct : Prop :=
  ∀ (q : Request) (s : State),
    let put := fun b : Bank =>
      { s with
        now := q.time
        settings := match s.settings.active with
          | .A => { s.settings with bankB := b, stagedReady := false }
          | .B => { s.settings with bankA := b, stagedReady := false } }
    (∀ (i : Fin 512) (r : ParamRecord), Served .loadParameter q s → beNat ((argsOf q).take 2) = i.val →
      readParamRecord ((argsOf q).drop 2) = some r → RecordSound r →
      (∀ (j : Fin 512) (r' : ParamRecord), j ≠ i → s.settings.stagedBank[j] = some r' → r'.key ≠ r.key) →
      exec (.loadParameter q) s = .next ((put (s.settings.stagedBank.set i (some r))).replied s .loadParameter q .ok [])) ∧
    (∀ i : Fin 512, Served .clearParameter q s → argsOf q = beOctets 2 i.val →
      exec (.clearParameter q) s = .next ((put (s.settings.stagedBank.set i none)).replied s .clearParameter q .ok [])) ∧
    (Served .clearParameter q s → 511 < beNat ((argsOf q).take 2) →
      exec (.clearParameter q) s = .next (s.denied .clearParameter q .badValue)) ∧
    (Served .forgetImage q s → 511 < beNat ((argsOf q).take 2) →
      exec (.forgetImage q) s = .next (s.denied .forgetImage q .badValue)) ∧
    (Served .copyActiveToStaged q s → exec (.copyActiveToStaged q) s = .next
      ((put s.settings.activeBank).replied s .copyActiveToStaged q .ok [])) ∧
    (Served .markStagedReady q s → exec (.markStagedReady q) s = .next
      ({ s with now := q.time, settings := { s.settings with stagedReady := true } }.replied s .markStagedReady q .ok [])) ∧
    (∀ i : Fin 512, Served .forgetImage q s → argsOf q = beOctets 2 i.val →
      ((∀ c v r, s.image[i] ≠ .pending c v r) → exec (.forgetImage q) s = .next
        ({ s with now := q.time, image := s.image.set i .unknown }.replied s .forgetImage q .ok [])) ∧
      ((∃ c v r, s.image[i] = .pending c v r) → exec (.forgetImage q) s = .next (s.denied .forgetImage q .busy)))

/-- A target out of range is refused BAD-VALUE: a profile above 3, an entry above 31, a slot above 511. LOAD PARAMETER of a
record that fails a field or consistency check is BAD-VALUE, and only then is a key that another slot of the staged bank
holds DUPLICATE (part of R7, R24, R27 to R31, R33, R37, R42 to R44, R46, R89). -/
def Obligations.BadTargetsAndRecordsAreRefused : Prop :=
  ∀ (k : RequestKind) (q : Request) (s : State), Served k q s →
    ((k = .loadProfile ∨ k = .readProfile) → 3 < (octetAt (argsOf q) 0).toNat →
      exec (k.command q) s = .next (s.denied k q .badValue)) ∧
    ((k = .loadStation ∨ k = .readStation ∨ k = .clearStation ∨ k = .loadAreaPolicy ∨ k = .readCounters ∨
        k = .clearCounters ∨ k = .grantService ∨ k = .endService ∨ k = .quarantineStation ∨ k = .releaseStation) →
      31 < (octetAt (argsOf q) 0).toNat → exec (k.command q) s = .next (s.denied k q .badValue)) ∧
    ((k = .loadParameter ∨ k = .clearParameter ∨ k = .forgetImage) → 511 < beNat ((argsOf q).take 2) →
      exec (k.command q) s = .next (s.denied k q .badValue)) ∧
    (k = .loadParameter → ∀ i : Fin 512, beNat ((argsOf q).take 2) = i.val →
      (readParamRecord ((argsOf q).drop 2) = none → exec (k.command q) s = .next (s.denied k q .badValue)) ∧
      (∀ r, readParamRecord ((argsOf q).drop 2) = some r → ¬ RecordSound r →
        exec (k.command q) s = .next (s.denied k q .badValue)) ∧
      (∀ r (j : Fin 512) r', readParamRecord ((argsOf q).drop 2) = some r → RecordSound r → j ≠ i →
        s.settings.stagedBank[j] = some r' → r'.key = r.key → exec (k.command q) s = .next (s.denied k q .duplicate)))

/-- The swap, whatever makes it: the designation flips, the mark is cleared, both banks keep their contents, and each image
slot is kept where its old and new records have equal keys and is UNKNOWN otherwise; nothing else changes and no event is
raised. ACTIVATE STAGED accepted makes it and answers OK (R53; part of R51, R52, R91; for OPEN WINDOW see
`WindowRequestsAct`). -/
def Obligations.ActivateStagedSwaps : Prop :=
  (∀ s : State,
    s.swap = { s with
      image := s.swap.image
      settings := { s.settings with active := s.settings.active.other, stagedReady := false } } ∧
    (∀ (i : Fin 512) (a b : ParamRecord), s.settings.activeBank[i] = some a → s.settings.stagedBank[i] = some b →
      a.key = b.key → s.swap.image[i] = s.image[i]) ∧
    (∀ i : Fin 512, (¬ ∃ a b : ParamRecord, s.settings.activeBank[i] = some a ∧ s.settings.stagedBank[i] = some b ∧
      a.key = b.key) → s.swap.image[i] = .unknown)) ∧
  ∀ (q : Request) (s : State), Served .activateStaged q s →
    (s.txns = [] → s.window = .shut → s.settings.stagedReady = true →
      exec (.activateStaged q) s = .next ({ s with now := q.time }.swap.replied s .activateStaged q .ok [])) ∧
    (s.txns ≠ [] → exec (.activateStaged q) s = .next (s.denied .activateStaged q .busy)) ∧
    (s.txns = [] → (s.window ≠ .shut ∨ s.settings.stagedReady = false) →
      exec (.activateStaged q) s = .next (s.denied .activateStaged q .wrongState))

/-! ### The changeover window and the line inputs -/

/-- OPEN WINDOW, EXTEND WINDOW and CLOSE WINDOW accepted. An opening swaps the banks first where the staged bank is ready,
then is OPEN for the clamped length, then raises WINDOW-OPENED; an extension moves the deadline, at most to 7200 s after the
open time; a close goes by the close of R125 and answers the CHANGE-mode transactions it waits for (R120; part of R119, R121,
R122). That WINDOW-CLOSED and its notice come before the reply is notes/assumptions/10.md. -/
def Obligations.WindowRequestsAct : Prop :=
  ∀ (n : Nat) (q : Request) (s : State), n < 65536 →
    (Served .openWindow q s → argsOf q = beOctets 2 n → s.keyPosition = .changeover → s.window = .shut →
      s.lineIn.taken = .stopped → (s.settings.stagedReady = true → s.txns = [] ∧ s.saving = false) → n ≠ 0 →
      exec (.openWindow q) s = .next
        (({ (if s.settings.stagedReady then { s with now := q.time }.swap else { s with now := q.time }) with
            window := .opened q.time (q.time + Config.seconds (min 7200 n)) }.raise
          { kind := .windowOpened, natural := 1, valueA := some (min 7200 n : Nat),
            reason := if s.settings.stagedReady then some .swap else none, source := some q.requester }).replied s
          .openWindow q .ok (beOctets 2 (min 7200 n) ++ beOctets 2 (min 7200 n)))) ∧
    (∀ o d, Served .extendWindow q s → argsOf q = beOctets 2 n → s.window = .opened o d → n ≠ 0 →
      exec (.extendWindow q) s = .next
        ({ s with now := q.time, window := .opened o (min (q.time + Config.seconds n) (o + Config.seconds 7200)) }.replied s .extendWindow q
          .ok (beOctets 2 ((min (q.time + Config.seconds n) (o + Config.seconds 7200) - q.time + 999999999) / 1000000000)))) ∧
    (∀ o d, Served .closeWindow q s → s.window = .opened o d →
      exec (.closeWindow q) s = .next
        (({ s with now := q.time }.closeWindow (.request q.requester)).replied s .closeWindow q .ok
          [BitVec.ofNat 8 (s.txns.filter fun x : Txn => decide (x.mode = TxnMode.change)).length]))

/-- OPEN WINDOW refused, in the order of R119: key position, window state, line state, a ready bank with a transaction or a
save, a length of 0; EXTEND WINDOW and CLOSE WINDOW of a window that is not OPEN are WRONG-STATE, and an extension of length
0 is BAD-VALUE (part of R119, R121, R122). That MANAGEMENT-REFUSED of the key position and its notice come before the reply
is notes/assumptions/10.md. -/
def Obligations.WindowRequestsRefused : Prop :=
  ∀ (q : Request) (s : State),
    let ready := s.settings.stagedReady = true ∧ (s.txns ≠ [] ∨ s.saving = true)
    (Served .openWindow q s →
      (s.keyPosition ≠ .changeover → exec (.openWindow q) s = .next (s.denied .openWindow q .keyPosition)) ∧
      (s.keyPosition = .changeover → s.window ≠ .shut ∨ s.lineIn.taken ≠ .stopped →
        exec (.openWindow q) s = .next (s.denied .openWindow q .wrongState)) ∧
      (s.keyPosition = .changeover → s.window = .shut → s.lineIn.taken = .stopped → ready →
        exec (.openWindow q) s = .next (s.denied .openWindow q .busy)) ∧
      (s.keyPosition = .changeover → s.window = .shut → s.lineIn.taken = .stopped → ¬ ready →
        beNat ((argsOf q).take 2) = 0 → exec (.openWindow q) s = .next (s.denied .openWindow q .badValue))) ∧
    (Served .extendWindow q s → s.window.isOpen = false →
      exec (.extendWindow q) s = .next (s.denied .extendWindow q .wrongState)) ∧
    (Served .extendWindow q s → s.window.isOpen = true → beNat ((argsOf q).take 2) = 0 →
      exec (.extendWindow q) s = .next (s.denied .extendWindow q .badValue)) ∧
    (Served .closeWindow q s → s.window.isOpen = false →
      exec (.closeWindow q) s = .next (s.denied .closeWindow q .wrongState))

/-- The deadlines of the window, of hold-off and of the trip pulse: each acts when the present time has reached it, and not
before; the trip pulse that runs when a warm start begins ends in its time during the settings load (part of R123, R128, R149).
That a deadline taken early has no effect is notes/assumptions/1.md, and the load as a phase of its own, in which the pulse ends,
notes/assumptions/16.md. -/
def Obligations.DeadlinesAct : Prop :=
  ∀ (t : Nat) (s : State), s.now ≤ t →
    let s1 : State := { s with now := t }
    (s.phase = .running →
      (∀ o d, s.window = .opened o d → d ≤ t → exec (.windowDeadline t) s = .next (s1.closeWindow .expiry)) ∧
      ((∀ o d, s.window = .opened o d → t < d) → exec (.windowDeadline t) s = .next s1) ∧
      (∀ d, s.window = .holdOff d → d ≤ t → exec (.holdOffDeadline t) s = .next { s1 with window := .shut }) ∧
      ((∀ d, s.window = .holdOff d → t < d) → exec (.holdOffDeadline t) s = .next s1)) ∧
    (s.phase = .running ∨ s.phase = .loadingWarm →
      (∀ e, s.pulseEnd = some e → e ≤ t →
        exec (.tripPulseEnd t) s = .next { s1 with trip := false, pulseEnd := none }) ∧
      ((∀ e, s.pulseEnd = some e → t < e) → exec (.tripPulseEnd t) s = .next s1))

/-- The close (R125, R126, R128): an OPEN window becomes DRAINING and raises WINDOW-CLOSED with the CHANGE-mode transactions
in the table; with none, the check of R127 is made and hold-off begins at once, and with some it stays DRAINING. A window
that is not OPEN is left as it is, and a report whose trigger is not in the set closes nothing (R124, part of R131). -/
def Obligations.WindowCloseAndDraining : Prop :=
  ∀ (c : CloseCause) (s : State),
    let waiting := (s.txns.filter fun t => decide (t.mode = .change)).length
    let closed := { s with window := .draining }.raise
      { kind := .windowClosed
        natural := match c with
          | .request _ | .key => 1
          | .expiry => 2
          | .trigger _ _ => 4
        valueA := some waiting
        valueB := match c with
          | .trigger .drift (some n) | .trigger .timeout (some n) => some n.val
          | _ => none
        reason := some (match c with
          | .request _ => .request
          | .key => .key
          | .expiry => .expiry
          | .trigger .lineStart _ => .lineStart
          | .trigger .level7 _ => .level7
          | .trigger .drift _ => .drift
          | .trigger .timeout _ => .timeout
          | .trigger .link _ => .link)
        source := match c with
          | .request m => some m
          | _ => none }
    (∀ o d, s.window = .opened o d → waiting ≠ 0 → s.closeWindow c = closed ∧ closed.window = .draining) ∧
    (∀ o d, s.window = .opened o d → waiting = 0 →
      s.closeWindow c = { closed.changeoverCheck with
        window := if s.settings.holdOff = 0 then .shut else .holdOff (s.now + Config.seconds s.settings.holdOff) }) ∧
    (s.window.isOpen = false → s.closeWindow c = s) ∧
    (s.window.isOpen = true ↔ ∃ o d, s.window = .opened o d) ∧
    (∀ t : TriggerSet, [Trigger.lineStart, .level7, .drift, .timeout, .link].map t.has =
      [t.lineStart, t.level7, t.drift, t.timeout, t.link]) ∧
    (∀ t n, s.settings.triggers.has t = false → s.report t n = s) ∧
    (∀ t n, s.settings.triggers.has t = true → s.report t n = s.closeWindow (.trigger t n))

/-- The end-of-changeover check (R127): it is made at the end of DRAINING, before hold-off; for each station the KNOWN slots
outside the run envelope and the UNKNOWN slots, of the active bank's records that name it; the check takes the entries in
order, and an entry raises CHANGEOVER-INCOMPLETE when it is an in-use member and one of its counts is not 0. It changes no
slot, no station state and no counter. DRAINING that still waits for a CHANGE-mode transaction goes on, and an ending
reported while the window is not DRAINING neither ends nor starts it (R126). -/
def Obligations.ChangeoverCheckCounts : Prop :=
  ∀ s : State,
    let slots := fun (n : Fin 32) (p : ParamRecord → ImageSlot → Bool) => (List.finRange 512).countP fun i =>
      match s.settings.activeBank[i] with
      | some r => decide (r.key.station = n) && p r s.image[i]
      | none => false
    let outside := fun n => slots n fun r v => match v with
      | .known c => decide (c < r.runLo) || decide (r.runHi < c)
      | _ => false
    let unknown := fun n => slots n fun _ v => decide (v = .unknown)
    s.changeoverCheck = (List.finRange 32).foldl (fun u n =>
      if (s.station n).inUse = true ∧ (s.station n).config.member = true ∧ ¬ (outside n = 0 ∧ unknown n = 0) then
        u.raise { kind := .changeoverIncomplete, natural := 5, station := some n, valueA := some (outside n : Nat),
                  valueB := some (unknown n : Nat) }
      else u) s ∧
    s.changeoverCheck.image = s.image ∧ s.changeoverCheck.settings = s.settings ∧
    s.changeoverCheck.counters = s.counters ∧
    (s.window = .draining → (∀ t ∈ s.txns, t.mode = .run) → s.examineDraining = { s.changeoverCheck with
      window := if s.settings.holdOff = 0 then .shut else .holdOff (s.now + Config.seconds s.settings.holdOff) }) ∧
    (s.window = .draining → (∃ t ∈ s.txns, t.mode = .change) → s.examineDraining = s) ∧
    (s.window ≠ .draining → s.examineDraining = s)

/-- The key codes and positions of R113. The line inputs change: the pins move, and the candidate is abandoned, kept or begun
(R114 and R116 in part). While RESET is held only the pins move (R175): that they do is notes/assumptions/19.md, and that the
clock stands still notes/assumptions/1.md. -/
def Obligations.InputChangesSetCandidates : Prop :=
  (contactCode false false = .run ∧ contactCode true false = .changeover ∧ contactCode false true = .service ∧
    contactCode true true = .fault ∧ KeyCode.run.position = .run ∧ KeyCode.changeover.position = .changeover ∧
    KeyCode.service.position = .service ∧ KeyCode.fault.position = .run ∧ lineOf true = .stopped ∧
    lineOf false = .running) ∧
  ∀ (t : Nat) (a b l : Bool) (s : State),
    (s.phase = .running → s.now ≤ t →
      exec (.keyContactChange t a b) s = .next { s with
        now := t
        keyA := a
        keyB := b
        key :=
          ⟨s.key.taken,
            if contactCode a b = s.key.taken then none
            else if s.key.candidate.map (·.1) = some (contactCode a b) then s.key.candidate
            else some (contactCode a b, t)⟩ } ∧
      exec (.lstopChange t l) s = .next { s with
        now := t
        lstop := l
        lineIn :=
          ⟨s.lineIn.taken,
            if lineOf l = s.lineIn.taken then none
            else if s.lineIn.candidate.map (·.1) = some (lineOf l) then s.lineIn.candidate
            else some (lineOf l, t)⟩ }) ∧
    (s.phase = .resetHeld → exec (.keyContactChange t a b) s = .next { s with keyA := a, keyB := b } ∧
      exec (.lstopChange t l) s = .next { s with lstop := l })

/-- A candidate shown for 50 ms is taken, and one shown for less is not. A taken key code ends SERVICE for every in-use
station when the position leaves SERVICE, closes an OPEN window when it leaves CHANGEOVER, and raises KEY-FAULT at the onset
of FAULT; a taken line state reports the line start when STOPPED turns to RUNNING (R115; part of R30, R114, R116). The order
of those effects is notes/assumptions/13.md. -/
def Obligations.StableInputsAreTaken : Prop :=
  ∀ (t : Nat) (s : State), s.phase = .running → s.now ≤ t →
    let s1 : State := { s with now := t }
    (∀ code since, s.key.candidate = some (code, since) → since + Config.ms 50 ≤ t →
      let s2 : State := { s1 with key := ⟨code, none⟩ }
      let ended : Vector StationEntry 32 := tabulate fun n =>
        if (s.station n).inUse = true ∧ (s.station n).state = .service then { s.station n with state := .normal }
        else s.station n
      let s3 : State := if s.keyPosition = .service ∧ code.position ≠ .service then
          { s2 with settings := { s.settings with stations := ended } }
        else s2
      let s4 := if s.keyPosition = .changeover ∧ code.position ≠ .changeover then s3.closeWindow .key else s3
      exec (.keyCodeTaken t) s = .next (if code = .fault ∧ s.key.taken ≠ .fault then
          s4.raise { kind := .keyFault, natural := 6, reason := some (.position s.keyPosition) }
        else s4)) ∧
    ((∀ code since, s.key.candidate = some (code, since) → t < since + Config.ms 50) → exec (.keyCodeTaken t) s = .next s1) ∧
    (∀ line since, s.lineIn.candidate = some (line, since) → since + Config.ms 50 ≤ t →
      exec (.lineStateTaken t) s = .next (if s.lineIn.taken = .stopped ∧ line = .running then
          { s1 with lineIn := ⟨line, none⟩ }.report .lineStart none
        else { s1 with lineIn := ⟨line, none⟩ })) ∧
    ((∀ line since, s.lineIn.candidate = some (line, since) → t < since + Config.ms 50) →
      exec (.lineStateTaken t) s = .next s1)

/-! ### Write vetting -/

/-- Stage 2, quantise (R62). With g1 the highest grid point not above the value and g2 the next above it, the result is g1 or
g2 by the table of R62; a tie needs an even quantum; v2 is on the grid, alters the value exactly when that is off the grid,
stays between any two grid points that enclose the value, and no grid point is nearer. -/
def Obligations.QuantiseGoesToNearestGridPoint : Prop :=
  ∀ (r : ParamRecord) (ref : Option Int) (v g1 : Int), 1 ≤ r.quantum → onGrid r g1 → g1 ≤ v → v < g1 + r.quantum →
    let v2 := quantise r ref v
    let q : Int := r.quantum
    let g2 := g1 + q
    let rem := v - g1
    (2 * rem = q → q % 2 = 0) ∧ (2 * rem < q → v2 = g1) ∧ (q < 2 * rem → v2 = g2) ∧ (2 * rem = q → ref = none → v2 = g1) ∧
    (∀ c, 2 * rem = q → ref = some c → (g2 - c).natAbs < (g1 - c).natAbs → v2 = g2) ∧
    (∀ c, 2 * rem = q → ref = some c → (g1 - c).natAbs ≤ (g2 - c).natAbs → v2 = g1) ∧
    onGrid r v2 ∧ (v2 ≠ v ↔ ¬ onGrid r v) ∧
    (∀ lo hi, onGrid r lo → onGrid r hi → lo ≤ v → v ≤ hi →
      lo ≤ v2 ∧ v2 ≤ hi ∧ (¬ onGrid r v → lo ≤ g1 ∧ g2 ≤ hi)) ∧
    ∀ g, onGrid r g → (v - v2).natAbs ≤ (v - g).natAbs

/-- Stage 3, the step limit (R63): made in RUN mode where step limits apply, and only there. Without a reference it refuses
NO-REFERENCE. With one, let C be the highest grid point not above ref + step_up and F the lowest not below ref - step_down:
the value is refused OUT-OF-REACH where max(lo, F) is above min(hi, C), and otherwise goes to the nearest end of that
interval, or stays; the result is then on the grid and in the run envelope. -/
def Obligations.StepLimitReachesGridPoints : Prop :=
  ∀ (r : ParamRecord) (mode : TxnMode) (ref : Option Int) (v : Int), RecordSound r → onGrid r v →
    (mode = .change ∨ r.stepLimits = false → stepLimit r mode ref v = .ok v) ∧
    (mode = .run → r.stepLimits = true →
      (ref = none → stepLimit r mode ref v = .error .noReference) ∧
      ∀ ref' top bottom : Int, ref = some ref' →
        onGrid r top → top ≤ ref' + r.stepUp → ref' + r.stepUp < top + r.quantum →
        onGrid r bottom → ref' - r.stepDown ≤ bottom → bottom - r.quantum < ref' - r.stepDown →
        let least := max r.runLo bottom
        let most := min r.runHi top
        (most < least → stepLimit r mode ref v = .error .outOfReach) ∧
        (least ≤ most → ∃ v3, stepLimit r mode ref v = .ok v3 ∧
          (v < least → v3 = least) ∧ (most < v → v3 = most) ∧ (least ≤ v → v ≤ most → v3 = v) ∧
          onGrid r v3 ∧ r.runLo ≤ v3 ∧ v3 ≤ r.runHi))

/-- The value outcome (R64): with v1 the requested value brought into the envelope, v2 its grid point and v3 what the step
limit makes of it, a refusal of the step limit is the outcome; else v3 equal to the requested value is admitted, and a v3
that differs is clamped under policy CLAMP where the profile permits rewriting, REWRITE-FORBIDDEN where it does not, and
refused with the first altering stage under policy REFUSE. An admitted value is the requested one, a clamped value differs
from it and needs policy CLAMP and a profile that permits rewriting, and both lie within the envelope of the mode and on the
record's grid; a value on the grid, in the envelope and, where stage 3 is made, within its reach is admitted as written. -/
def Obligations.VettedValueInEnvelopeOnGrid : Prop :=
  ∀ (r : ParamRecord) (mode : TxnMode) (ref : Option Int) (rewrite : Bool) (v : Int), RecordSound r →
    let inside := fun w : Int => (if mode = .run then r.runLo else r.chgLo) ≤ w ∧
      w ≤ (if mode = .run then r.runHi else r.chgHi) ∧ onGrid r w
    (∀ w, vetValue r mode ref rewrite v = .unaltered w → w = v ∧ inside w) ∧
    (∀ w stage, vetValue r mode ref rewrite v = .clamped w stage →
      w ≠ v ∧ inside w ∧ r.policy = .clamp ∧ rewrite = true) ∧
    (inside v → (mode = .change ∨ r.stepLimits = false ∨
        ∃ c, ref = some c ∧ c - r.stepDown ≤ v ∧ v ≤ c + r.stepUp) → vetValue r mode ref rewrite v = .unaltered v) ∧
    let v1 := max (if mode = .run then r.runLo else r.chgLo) (min (if mode = .run then r.runHi else r.chgHi) v)
    let v2 := quantise r ref v1
    let stage := if v1 ≠ v then Reason.outsideEnvelope else if v2 ≠ v1 then .offGrid else .stepExceeded
    (∀ why, stepLimit r mode ref v2 = .error why → vetValue r mode ref rewrite v = .refused why none none) ∧
    ∀ v3, stepLimit r mode ref v2 = .ok v3 →
      (v3 = v → vetValue r mode ref rewrite v = .unaltered v) ∧
      (v3 ≠ v → vetValue r mode ref rewrite v = match r.policy, rewrite with
        | .clamp, true => .clamped v3 stage
        | .clamp, false => .refused .rewriteForbidden (some stage) (some v3)
        | .refuse, _ => .refused stage none (some v3))

/-- The vetting mode (R58), and the frame verdict (R65 to R70): its steps in order, the first failing value in index order
deciding step 4; what step 4 makes of each value (R67, R68): an unlisted one by the area's verdict and the mode, a listed one
PARAMETER-BUSY, MALFORMED or by the vetting computation, with the level, key and values a refusal carries (part of R74). Step
4 lists, in index order, exactly the values that it admits as listed, and it answers a list where it admits every value. An
admitted frame has that list: every value whose key the active bank lists is on it, with its position, its record's slot and
the value its octets give (part of R69, R72), and every value on it has a record of the active bank under its key, in whose
envelope of the frame's mode, and on whose grid, the forwarded value lies (part of R64). -/
def Obligations.FrameVerdictChecksInOrder : Prop :=
  (∀ (s : State) (n : Fin 32),
    ((s.station n).state = .service → vettingMode s n = .change) ∧
    ((s.station n).state = .normal → s.window.isOpen = true → (s.station n).config.member = true →
      vettingMode s n = .change) ∧
    ((s.station n).state = .normal → (s.window.isOpen = false ∨ (s.station n).config.member = false) →
      vettingMode s n = .run)) ∧
  ∀ (s : State) (w : WriteRequest), BankSound s.settings.activeBank →
    let quarantined := (s.station w.station).state = .quarantined
    let mode := vettingMode s w.station
    let refused := fun why : Reason => (⟨why, none, 3, none, none, none⟩ : Refused)
    (quarantined → frameVerdict s w = .error (refused .stationQuarantined)) ∧
    (∀ (i raw : Nat) (e : Refused), ¬ quarantined → w.raws[i]? = some raw → vetItem s w mode i raw = .error e →
      (∀ j raw', j < i → w.raws[j]? = some raw' → ∃ l, vetItem s w mode j raw' = .ok l) →
      frameVerdict s w = .error e) ∧
    (∀ listed : List Listed, ¬ quarantined → vetItems s w mode w.raws 0 = .ok listed →
      (listed ≠ [] → (∃ t ∈ s.txns, t.ref = ⟨w.station, w.tag⟩) → frameVerdict s w = .error (refused .tagInUse)) ∧
      (listed ≠ [] → (¬ ∃ t ∈ s.txns, t.ref = ⟨w.station, w.tag⟩) → 64 ≤ s.txns.length →
        frameVerdict s w = .error (refused .tableFull)) ∧
      ((listed ≠ [] → (¬ ∃ t ∈ s.txns, t.ref = ⟨w.station, w.tag⟩) ∧ s.txns.length < 64) →
        ((s.portL.up = false ∨ 64 ≤ s.portL.ordinary.length) → frameVerdict s w = .error (refused .egressFull)) ∧
        (s.portL.up = true → s.portL.ordinary.length < 64 → frameVerdict s w = .ok ⟨mode, listed⟩))) ∧
    (∀ listed : List Listed, vetItems s w mode w.raws 0 = .ok listed →
      (listed.map (·.position)).Pairwise (· < ·) ∧
      ∀ l, l ∈ listed ↔ ∃ i raw, w.raws[i]? = some raw ∧ vetItem s w mode i raw = .ok (some l)) ∧
    ((∀ i raw : Nat, w.raws[i]? = some raw → ∃ l, vetItem s w mode i raw = .ok l) →
      ∃ listed, vetItems s w mode w.raws 0 = .ok listed) ∧
    (∀ i raw : Nat,
      let unlisted := (s.station w.station).policies[w.area].unlisted
      let open_ := unlisted = .pass ∨ unlisted = .window ∧ mode = .change
      let key := some (w.area, BitVec.ofNat 16 (w.first + i))
      ((∀ (slot : Fin 512) (r : ParamRecord), s.settings.activeBank[slot] = some r → r.key ≠ w.key i) →
        (open_ → vetItem s w mode i raw = .ok none) ∧
        (¬ open_ → vetItem s w mode i raw = .error ⟨.areaClosed, none, 3, key, some raw, none⟩)) ∧
      ∀ (slot : Fin 512) (r : ParamRecord), s.settings.activeBank[slot] = some r → r.key = w.key i →
        let v := kindReads r.kind (kindOctets r.kind) raw
        ((∃ c p t, s.image[slot] = .pending c p t) →
          vetItem s w mode i raw = .error ⟨.parameterBusy, none, r.criticality, key, some raw, none⟩) ∧
        ∀ ref : Option Int, (s.image[slot] = .unknown ∧ ref = none ∨ ∃ c, s.image[slot] = .known c ∧ ref = some c) →
          (kindOctets r.kind ≠ w.profile.valueWidth.toNat →
            vetItem s w mode i raw = .error ⟨.malformed, none, r.criticality, key, some raw, none⟩) ∧
          (kindOctets r.kind = w.profile.valueWidth.toNat →
            vetItem s w mode i raw = match vetValue r mode ref w.profile.rewritePermitted v with
              | .unaltered v3 => .ok (some ⟨i, slot, r.kind, v, v3, none⟩)
              | .clamped v3 stage => .ok (some ⟨i, slot, r.kind, v, v3, some stage⟩)
              | .refused why stage v3 => .error ⟨why, stage, r.criticality, key, some v, v3⟩)) ∧
    (∀ a : Admission, frameVerdict s w = .ok a → a.mode = mode ∧ vetItems s w mode w.raws 0 = .ok a.listed ∧
      (∀ l ∈ a.listed, ∃ (r : ParamRecord) (raw : Nat),
        s.settings.activeBank[l.slot] = some r ∧ r.key = w.key l.position ∧ w.raws[l.position]? = some raw ∧
        l.kind = r.kind ∧ l.requested = kindReads r.kind (kindOctets r.kind) raw ∧ onGrid r l.value ∧
        (if mode = .run then r.runLo else r.chgLo) ≤ l.value ∧ l.value ≤ (if mode = .run then r.runHi else r.chgHi) ∧
        (l.stage = none → l.value = l.requested)) ∧
      ∀ (i raw : Nat) (slot : Fin 512) (r : ParamRecord), w.raws[i]? = some raw →
        s.settings.activeBank[slot] = some r → r.key = w.key i →
        ∃ l ∈ a.listed, l.position = i ∧ l.slot = slot ∧ l.kind = r.kind ∧
          l.requested = kindReads r.kind (kindOctets r.kind) raw)

/-- A WRITE request of an identified station (R57, R72 to R75). The vetting unit has the frame, its profile, its station, its
tag, area, first index and values, each read where the profile places it and in the profile's byte order (R6, part of R59).
Refused, the frame is dropped: the refused counter and one WRITE-REFUSED event. Admitted, it enters the ordinary queue of
port L as forwarded; with a listed value it is tracked: one QUEUED transaction, newest in the table, its mark on the frame,
and each listed slot PENDING with the forwarded value, that transaction and its former committed value, every other slot as
before (R79); the admitted and clamped counters; and WRITE-CLAMPED for the first clamped value. The event's place after the
entry is notes/assumptions/15.md. -/
def Obligations.WriteRequestIsVetted : Prop :=
  ∀ (t : Nat) (f : List Octet) (prof : Fin 4) (n : Fin 32) (s : State), s.ready .P t →
    classifyArrival s.settings s.identity.address .P f = .identified .write prof n →
    let s1 : State := { s with now := t }
    let p := s.settings.profiles[prof]
    let pl := payload f
    let w := writeRequestOf p n f
    let c := s.counters[n]
    (w.profile = p ∧ w.station = n ∧ w.source = frameSource f ∧ w.frame = f ∧
      (∀ i, w.key i = ⟨n, w.area, BitVec.ofNat 16 (w.first + i)⟩) ∧
      w.area.val = (octetAt pl p.areaOffset.toNat).toNat ∧ w.raws.length = (octetAt pl p.countOffset.toNat).toNat ∧
      (p.byteOrder ≠ none → w.first = p.reads pl p.indexOffset.toNat 2 ∧
        (∃ x, p.tagField = some x ∧ w.tag = BitVec.ofNat 16 (p.reads pl x.offset.toNat x.width.toNat)) ∧
        ∀ i, i < w.raws.length → w.raws[i]? =
          some (p.reads pl (p.firstValueOffset.toNat + i * p.valueWidth.toNat) p.valueWidth.toNat))) ∧
    (∀ e : Refused, frameVerdict s1 w = .error e →
      exec (.frameArrival t .P true f) s = .next
        ({ s1 with counters := s.counters.set n ⟨c.admitted, c.clamped, satInc c.refused, c.drift⟩ }.raise
          { kind := .writeRefused, natural := e.level, station := some n, key := e.key, valueA := e.valueA,
            valueB := e.valueB, reason := some e.reason, qualifier := e.stage, source := some (frameSource f) })) ∧
    (∀ a : Admission, frameVerdict s1 w = .ok a →
      let txns := s.txns ++ [⟨⟨n, w.tag⟩, frameSource f, a.mode, a.listed.map (·.slot), .queued⟩]
      let held := fun i : Fin 512 => match a.listed.find? fun l => decide (l.slot = i) with
        | none => s.image[i]
        | some l => .pending (match s.image[i] with
          | .known c => some c
          | _ => none) l.value ⟨n, w.tag⟩
      let tracked : State := if a.listed = [] then s1 else { s1 with txns := txns, image := tabulate held }
      let queued := tracked.handOver .L .ordinary
        (forwardedFrame (forwardedOctets w a.listed) (if a.listed = [] then none else some ⟨n, w.tag⟩))
      (a.listed.find? (·.stage.isSome) = none → exec (.frameArrival t .P true f) s = .next
        { queued with counters := s.counters.set n ⟨satInc c.admitted, c.clamped, c.refused, c.drift⟩ }) ∧
      (∀ l, a.listed.find? (·.stage.isSome) = some l → exec (.frameArrival t .P true f) s = .next
        ({ queued with
            counters := s.counters.set n ⟨satInc c.admitted, satInc c.clamped, c.refused, c.drift⟩ }.raise
          { kind := .writeClamped, natural := 2, station := some n,
            key := some (w.area, BitVec.ofNat 16 (w.first + l.position)), valueA := some l.requested,
            valueB := some l.value, reason := l.stage, source := some (frameSource f) })))

/-- The frame as forwarded (R71): without a clamped value it is the frame as received. With one, its length is the received
length, its FCS is good, each clamped value's octets hold v3 in two's complement, read in the profile's byte order (R6), and
every octet that belongs neither to a clamped value nor to the FCS is as received. -/
def Obligations.RewrittenFrameKeepsTheRest : Prop :=
  ∀ (w : WriteRequest) (listed : List Listed), (listed.map (·.position)).Nodup → 4 ≤ w.frame.length →
    (∀ l ∈ listed, headerLength w.frame + w.profile.firstValueOffset.toNat +
      (l.position + 1) * w.profile.valueWidth.toNat ≤ w.frame.length - 4) →
    let g := forwardedOctets w listed
    let start := fun l : Listed => headerLength w.frame + w.profile.firstValueOffset.toNat +
      l.position * w.profile.valueWidth.toNat
    ((∀ l ∈ listed, l.stage = none) → g = w.frame) ∧
    ((∃ l ∈ listed, l.stage ≠ none) →
      g.length = w.frame.length ∧ fcsGood g = true ∧
      (∀ l ∈ listed, l.stage ≠ none → slice g (start l) w.profile.valueWidth.toNat = valueOctets w.profile l.value ∧
        (w.profile.byteOrder ≠ none → (w.profile.reads g (start l) w.profile.valueWidth.toNat : Int) =
          l.value % 256 ^ w.profile.valueWidth.toNat)) ∧
      ∀ i, i < w.frame.length - 4 →
        (∀ l ∈ listed, l.stage ≠ none → ¬ (start l ≤ i ∧ i < start l + w.profile.valueWidth.toNat)) →
        g[i]? = w.frame[i]?)

/-! ### Frame arrival and routing -/

/-- The parts of a frame (R3), and the arrival checks in the order of R2, and a frame to the part's own address that is no
management frame (part of R5): the first failure decides, and only its own counter moves; a saturating counter stops at its
largest value. A frame that began before the port came to receive, or that finds the port DOWN since an earlier moment
(notes/assumptions/25.md) or a settings load under way, is discarded and not counted, and none is received in RESET or
without supply (part of R1, R175). That a run of fewer than four octets is an FCS error is notes/assumptions/5.md. -/
def Obligations.ArrivalChecksInOrder : Prop :=
  (∀ (w : Nat) (c : BitVec w), (satInc c).toNat = min (c.toNat + 1) (2 ^ w - 1)) ∧
  (∀ f : List Octet,
    let num := fun at_ n => beNat (slice f at_ n)
    let after := if num 12 2 = 0x8100 then 16 else 12
    (frameDestination f).toNat = num 0 6 ∧ (frameSource f).toNat = num 6 6 ∧ (frameType f).toNat = num after 2 ∧
    (frameTci f).map (·.toNat) = (if num 12 2 = 0x8100 then some (num 14 2) else none) ∧
    payload f = (f.take (f.length - 4)).drop (after + 2)) ∧
  ∀ (t : Nat) (p : Port) (f : List Octet) (s : State),
    let s1 : State := { s with now := t }
    let c := (s.port p).arrival
    let put := fun a : ArrivalCounters => s1.setPort p { s.port p with arrival := a }
    let sound := fcsGood f = true ∧ 64 ≤ f.length ∧ f.length ≤ 1522
    (s.ready p t →
      (fcsGood f = false →
        exec (.frameArrival t p true f) s = .next (put { c with fcsErrors := satInc c.fcsErrors })) ∧
      (fcsGood f = true → (f.length < 64 ∨ 1522 < f.length) →
        exec (.frameArrival t p true f) s = .next (put { c with lengthErrors := satInc c.lengthErrors })) ∧
      (sound → frameType f = 0x8808#16 → exec (.frameArrival t p true f) s = .next s1) ∧
      (sound → frameType f ≠ 0x8808#16 → frameDestination f = s.identity.address →
        frameType f ≠ s.settings.managementType →
        exec (.frameArrival t p true f) s = .next (put { c with strayManagement := satInc c.strayManagement })) ∧
      exec (.frameArrival t p false f) s = .next s1) ∧
    (s.now ≤ t →
      (s.phase = .running ∧ (s.port p).up = false ∧ (s.port p).lostAt ≠ some t ∨ s.phase.loading = true) →
      exec (.frameArrival t p true f) s = .next s1) ∧
    (s.phase.alive = false → exec (.frameArrival t p true f) s = .next s)

/-- What an arriving frame is: its arrival checks, the part's own address and the profile it matches (R2, R5, R9) lead to the
class and role of its function code (R11); a reply on P and a request on L pass unexamined (R12); an examined frame is
malformed exactly when a check fails it, and else is of an identified station where the class is identified in its direction
and R16 finds an entry by the destination on P and by the source on L, of an unknown station where R16 finds none, and plain
in every other class (R18, R19). The malformed checks of R13 and R14, in their order, each written out for the class and role
that makes it: the first that fails names the cause, and a frame that fails none is well-formed. A frame of a matched profile
without a function code has failed already. The fields the checks and the routing read stand where the profile places them,
in its byte order (R6). That a run of fewer than four octets is an FCS error is notes/assumptions/5.md, and that a WRITE
frame of a profile without a tag field is TRUNCATED notes/assumptions/21.md. -/
def Obligations.MalformedChecksInOrder : Prop :=
  (∀ (st : Settings) (own : Mac) (port : Port) (f : List Octet),
    let a := classifyArrival st own port f
    let short := f.length < 64 ∨ 1522 < f.length
    (fcsGood f = false → a = .fcsError) ∧
    (fcsGood f = true → short → a = .lengthError) ∧
    (fcsGood f = true → ¬ short → frameType f = 0x8808#16 → a = .flowControl) ∧
    (fcsGood f = true → ¬ short → frameType f ≠ 0x8808#16 →
      (frameDestination f = own → frameType f = st.managementType → a = .management) ∧
      (frameDestination f = own → frameType f ≠ st.managementType → a = .stray) ∧
      (frameDestination f ≠ own → matchProfile st (frameType f) (payload f) = none → a = .foreign) ∧
      ∀ i, frameDestination f ≠ own → matchProfile st (frameType f) (payload f) = some i →
        a = classifyMatched st port f i)) ∧
  (∀ (p : Profile) (code : Octet),
    (∀ e ∈ p.functionMap, (p.functionMap.map (·.code)).Nodup → e.code = code → p.classify code = (e.cls, e.role)) ∧
    ((∀ e ∈ p.functionMap, e.code ≠ code) → p.classify code = (.other, .request))) ∧
  (∀ (p : Profile) (pl : List Octet),
    p.area pl = (octetAt pl p.areaOffset.toNat).toNat ∧ p.count pl = (octetAt pl p.countOffset.toNat).toNat ∧
    p.status pl = octetAt pl p.statusOffset.toNat ∧ (p.values pl).length = p.count pl ∧
    (p.byteOrder ≠ none →
      (p.indexOffset.toNat + 2 ≤ pl.length → p.index pl = p.reads pl p.indexOffset.toNat 2) ∧
      (∀ x, p.tagField = some x → x.offset.toNat + x.width.toNat ≤ pl.length →
        p.tag pl = BitVec.ofNat 16 (p.reads pl x.offset.toNat x.width.toNat)) ∧
      ∀ i, i < p.count pl → p.firstValueOffset.toNat + (i + 1) * p.valueWidth.toNat ≤ pl.length →
        (p.values pl)[i]? =
          some (p.reads pl (p.firstValueOffset.toNat + i * p.valueWidth.toNat) p.valueWidth.toNat))) ∧
  (∀ (st : Settings) (port : Port) (f : List Octet) (i : Fin 4),
    let p := st.profiles[i]
    let pl := payload f
    let fc := p.functionOffset.toNat
    let a := classifyMatched st port f i
    (pl.length ≤ fc → a = .malformed none .truncated) ∧
    ∀ (c : FrameClass) (r : Role), fc < pl.length → p.classify (octetAt pl fc) = (c, r) →
      let examined := port = .P ∧ r = .request ∨ port = .L ∧ r = .reply
      let sought := c = .read ∨ c = .write ∨ (port = .P ∧ (c = .control ∨ c = .program))
      let address := match port with
        | .P => frameDestination f
        | .L => frameSource f
      (¬ examined → a = .unexamined c) ∧
      (examined →
        (∀ cause, a = .malformed (some c) cause ↔ malformation p f.length pl c r = some cause) ∧
        (malformation p f.length pl c r = none →
          (¬ sought → a = .plain c) ∧
          (sought → identify st i address pl = none → a = .unknownStation c) ∧
          ∀ n, sought → identify st i address pl = some n → a = .identified c i n))) ∧
  ∀ (p : Profile) (n : Nat) (pl : List Octet) (c : FrameClass) (r : Role),
    let long := n < p.minLength.toNat ∨ p.maxLength.toNat < n
    let has := fun (o : Word16) (k : Nat) => o.toNat + k ≤ pl.length
    let hasTag := ∃ t, p.tagField = some t ∧ has t.offset t.width.toNat
    let addressed := has p.areaOffset 1 ∧ has p.indexOffset 2 ∧ has p.countOffset 1
    let header := match c, r with
      | .write, .request => hasTag ∧ addressed
      | .read, .request => addressed
      | .read, .reply => has p.statusOffset 1 ∧ addressed
      | .write, .reply => hasTag ∧ has p.statusOffset 1
      | _, _ => True
    let indexed := (c = .write ∧ r = .request) ∨ c = .read
    let most := if c = .write then 8 else 64
    let valued := (c = .write ∧ r = .request) ∨ (c = .read ∧ r = .reply)
    let short := pl.length < p.firstValueOffset.toNat + p.count pl * p.valueWidth.toNat
    (long → malformation p n pl c r = some .length) ∧
    (¬ long → ¬ header → malformation p n pl c r = some .truncated) ∧
    (¬ long → header → ¬ indexed → malformation p n pl c r = none) ∧
    (¬ long → header → indexed →
      (15 < p.area pl → malformation p n pl c r = some .area) ∧
      (p.area pl ≤ 15 → (p.count pl = 0 ∨ most < p.count pl) → malformation p n pl c r = some .count) ∧
      (p.area pl ≤ 15 → 1 ≤ p.count pl → p.count pl ≤ most →
        (65536 < p.index pl + p.count pl → malformation p n pl c r = some .indexRange) ∧
        (p.index pl + p.count pl ≤ 65536 →
          (valued ∧ short → malformation p n pl c r = some .truncated) ∧
          (¬ (valued ∧ short) → malformation p n pl c r = none))))

/-- Frames that reach neither vetting, gating nor a table: foreign frames by the policy of their port, frames passed
unexamined and frames of classes that need no station are forwarded unchanged; a malformed frame is counted, and from P
discarded with one MALFORMED event; a WRITE, CONTROL or PROGRAM request to an unknown station is discarded with one
STATION-UNKNOWN event, and every other frame of an unknown station is forwarded (R10, R15, R17; part of R12, R18, R19). -/
def Obligations.UnvettedFramesAreRouted : Prop :=
  ∀ (t : Nat) (p : Port) (f : List Octet) (s : State), s.ready p t →
    let s1 : State := { s with now := t }
    let a := classifyArrival s.settings s.identity.address p f
    let counted : State := { s1 with malformed := satInc s.malformed }
    let queue := fun c : FrameClass => if c = .cyclic then QueueKind.express else QueueKind.ordinary
    let drops := (s.port p).arrival
    (a = .foreign → (s.settings.port p).foreign = .pass →
      exec (.frameArrival t p true f) s = .next (s1.forward p.other .ordinary f)) ∧
    (a = .foreign → (s.settings.port p).foreign = .drop → exec (.frameArrival t p true f) s = .next
      (s1.setPort p { s.port p with arrival := { drops with foreignDrops := satInc drops.foreignDrops } })) ∧
    (∀ c, a = .unexamined c ∨ a = .plain c →
      exec (.frameArrival t p true f) s = .next (s1.forward p.other (queue c) f)) ∧
    (∀ c cause, a = .malformed c cause → p = .P → exec (.frameArrival t p true f) s = .next (counted.raise
      { kind := .malformed, natural := 3, reason := some cause, source := some (frameSource f) })) ∧
    (∀ c cause, a = .malformed c cause → p = .L → exec (.frameArrival t p true f) s = .next
      (counted.forward .P (if c = some .cyclic then .express else .ordinary) f)) ∧
    (∀ c, a = .unknownStation c → p = .P → (c = .write ∨ c = .control ∨ c = .program) →
      exec (.frameArrival t p true f) s = .next (s1.raise
        { kind := .stationUnknown, natural := 5, valueA := some (frameDestination f).toNat,
          reason := some (.frameClass c), source := some (frameSource f) })) ∧
    (∀ c, a = .unknownStation c → (p = .L ∨ c = .read) →
      exec (.frameArrival t p true f) s = .next (s1.forward p.other .ordinary f))

/-- READ, CONTROL and PROGRAM requests of an identified station: the read verdict of the area decides the first whatever the
state, the station state and the window the others; a permitted frame is forwarded unchanged, a refused one is discarded with
its one event (R34, R35). -/
def Obligations.GatedRequestsAreJudged : Prop :=
  ∀ (t : Nat) (f : List Octet) (prof : Fin 4) (n : Fin 32) (c : FrameClass) (s : State), s.ready .P t →
    classifyArrival s.settings s.identity.address .P f = .identified c prof n →
    let s1 : State := { s with now := t }
    let e := s.station n
    let p := s.settings.profiles[prof]
    let passes := exec (.frameArrival t .P true f) s = .next (s1.forward .L .ordinary f)
    let refuses := fun (kind : EventKind) (level : Nat) (why : Reason) => exec (.frameArrival t .P true f) s = .next
      (s1.raise { kind := kind, natural := level, station := some n, reason := some why, source := some (frameSource f) })
    (c = .read → ∀ a : Fin 16, p.area (payload f) = a.val →
      (e.policies[a].read = .pass → passes) ∧
      (e.policies[a].read = .refuse → exec (.frameArrival t .P true f) s = .next (s1.raise
        { kind := .readRefused, natural := 2, station := some n,
          key := some (a, BitVec.ofNat 16 (p.index (payload f))), valueA := some (p.count (payload f)),
          source := some (frameSource f) }))) ∧
    (c = .control →
      (e.state = .normal → s.window.isOpen = true → e.config.member = true → passes) ∧
      (e.state = .normal → (s.window.isOpen = false ∨ e.config.member = false) →
        refuses .controlRefused 4 .notInWindow) ∧
      (e.state = .service → passes) ∧
      (e.state = .quarantined → refuses .controlRefused 4 .quarantined)) ∧
    (c = .program →
      (e.state = .normal → refuses .programRefused 5 .notInService) ∧
      (e.state = .service → passes) ∧
      (e.state = .quarantined → refuses .programRefused 5 .quarantined))

/-- Traffic to the part's own address is never forwarded, and no frame goes back out of the port it came in on (chapter 1):
an arrival adds no forwarded frame to the queues of its own port, and none to either port when it is addressed to the part.
-/
def Obligations.NoFrameGoesBackOut : Prop :=
  ∀ (t : Nat) (p : Port) (b : Bool) (f : List Octet) (s s' : State), exec (.frameArrival t p b f) s = .next s' →
    let forwarded := fun (u : State) (x : Port) =>
      ((u.port x).allFrames.filter fun q => decide (q.origin = .forwarded)).map (·.octets)
    (forwarded s' p).Sublist (forwarded s p) ∧
    (frameDestination f = s.identity.address → (forwarded s' p.other).Sublist (forwarded s p.other))

/-! ### Transactions and the value image -/

/-- An image slot held by a write, released at each outcome, and taught a value; and the release of a transaction, which sets
every slot of its list and nothing else (R80; part of R79, R83, R84). -/
def Obligations.ImageSlotTransitions : Prop :=
  (∀ (s : State) (x : Txn) (out : TxnOutcome),
    let u := s.releaseSlots x.ref out x.slots
    u = { s with image := u.image } ∧
    ∀ i : Fin 512, (i ∈ x.slots → u.image[i] = s.image[i].release x.ref out) ∧
      (i ∉ x.slots → u.image[i] = s.image[i])) ∧
  ∀ (c v p : Int) (o : Option Int) (t u : TxnRef),
    ImageSlot.unknown.hold v t = .pending none v t ∧ (ImageSlot.known c).hold v t = .pending (some c) v t ∧
    (ImageSlot.pending o p t).release t .success = .known p ∧
    (ImageSlot.pending (some c) p t).release t .failure = .known c ∧
    (ImageSlot.pending (some c) p t).release t .discard = .known c ∧
    (ImageSlot.pending none p t).release t .failure = .unknown ∧
    (ImageSlot.pending none p t).release t .discard = .unknown ∧
    (ImageSlot.pending o p t).release t .timeout = .unknown ∧
    (u ≠ t → ∀ out, (ImageSlot.pending o p u).release t out = .pending o p u) ∧
    ImageSlot.unknown.learn v = (.known v, none) ∧ (ImageSlot.known v).learn v = (.known v, none) ∧
    (v ≠ c → (ImageSlot.known c).learn v = (.known v, some ⟨some c, false⟩)) ∧
    (v = p ∨ o = some v → (ImageSlot.pending o p t).learn v = (.pending o p t, none)) ∧
    (v ≠ p → o ≠ some v → (ImageSlot.pending o p t).learn v = (.pending (some v) p t, some ⟨o, true⟩))

/-- A read reply of an identified station with the success status (R81, R82, R85 to R87): its values are learned in index
order, each listed value of the record's own width, as the record's kind reads it; the station, area, first index and values
it is offered with are those of the reply's octets, read in the profile's byte order (R6, part of R59); a drift counts,
raises DRIFT and is checked against the envelope in force as the reply found it, and a breach raises ENVELOPE-BREACH and may
quarantine the station (part of R32); the drifts of a member are reported when the whole reply is learned; then the reply is
forwarded. With another status nothing is learned. That the LEVEL7 close precedes the quarantine is notes/assumptions/14.md,
that the offer precedes the forwarding notes/assumptions/15.md. -/
def Obligations.ReadReplyTeachesTheImage : Prop :=
  (∀ (o : ReadOffer) (changeover : Bool) (i raw : Nat) (s : State),
    let k : Key := ⟨o.station, o.area, BitVec.ofNat 16 (o.first + i)⟩
    ((∀ (slot : Fin 512) (r : ParamRecord), s.settings.activeBank[slot] = some r → r.key ≠ k) →
      learnValue o changeover i raw s = (s, false)) ∧
    ∀ (slot : Fin 512) (r : ParamRecord), s.settings.activeBank[slot] = some r → r.key = k →
      (∀ (j : Fin 512) (r' : ParamRecord), j < slot → s.settings.activeBank[j] = some r' → r'.key ≠ k) →
      let v := kindReads r.kind (kindOctets r.kind) raw
      let lo := if changeover then r.chgLo else r.runLo
      let hi := if changeover then r.chgHi else r.runHi
      let after : State := { s with image := s.image.set slot (s.image[slot].learn v).1 }
      (kindOctets r.kind ≠ o.width → learnValue o changeover i raw s = (s, false)) ∧
      (kindOctets r.kind = o.width → (s.image[slot].learn v).2 = none → learnValue o changeover i raw s = (after, false)) ∧
      (∀ d, kindOctets r.kind = o.width → (s.image[slot].learn v).2 = some d →
        let c := s.counters[o.station]
        let drifted := { after with
          counters := s.counters.set o.station ⟨c.admitted, c.clamped, c.refused, satInc c.drift⟩ }.raise
            { kind := .drift, natural := r.criticality, station := some o.station, key := some (o.area, k.index),
              valueA := d.old, valueB := some v, reason := if d.inFlight then some .writeInFlight else none,
              source := some o.source }
        let breached := drifted.raise
          { kind := .envelopeBreach, natural := 7, station := some o.station, key := some (o.area, k.index),
            valueA := some v, valueB := some (if v < lo then lo else hi),
            reason := some (if changeover then .changeoverEnvelope else .runEnvelope), source := some o.source }
        let e := breached.station o.station
        (lo ≤ v → v ≤ hi → learnValue o changeover i raw s = (drifted, true)) ∧
        ((v < lo ∨ hi < v) → (e.config.quarantineOnBreach = false ∨ e.state = .quarantined) →
          learnValue o changeover i raw s = (breached, true)) ∧
        ((v < lo ∨ hi < v) → e.config.quarantineOnBreach = true → e.state ≠ .quarantined →
          learnValue o changeover i raw s =
            ((breached.setStation o.station { e with state := .quarantined }).raise
              { kind := .quarantined, natural := 4, station := some o.station, reason := some .breach }, true)))) ∧
  ∀ (t : Nat) (f : List Octet) (prof : Fin 4) (n : Fin 32) (s : State), s.ready .L t →
    classifyArrival s.settings s.identity.address .L f = .identified .read prof n →
    let p := s.settings.profiles[prof]
    let s1 : State := { s with now := t }
    let o := readOfferOf p n f
    let pl := payload f
    let changeover := decide ((s.station n).state = .service) ||
      ((s.station n).config.member && (s.window.isOpen || decide (s.window = .draining)))
    let learned := (p.values (payload f)).zipIdx.foldl
      (fun (x : State × Nat) (v : Nat × Nat) =>
        ((learnValue o changeover v.2 v.1 x.1).1,
          if (learnValue o changeover v.2 v.1 x.1).2 then x.2 + 1 else x.2)) (s1, 0)
    let reported := if (s.station n).config.member then
        (List.range learned.2).foldl (fun u _ => u.report .drift (some n)) learned.1
      else learned.1
    (o.station = n ∧ o.width = p.valueWidth.toNat ∧ o.source = frameSource f ∧ o.values = p.values pl ∧
      o.area.val = (octetAt pl p.areaOffset.toNat).toNat ∧ o.values.length = (octetAt pl p.countOffset.toNat).toNat ∧
      (p.byteOrder ≠ none → o.first = p.reads pl p.indexOffset.toNat 2 ∧
        ∀ i, i < o.values.length → o.values[i]? =
          some (p.reads pl (p.firstValueOffset.toNat + i * p.valueWidth.toNat) p.valueWidth.toNat))) ∧
    (p.status (payload f) = p.successStatus →
      exec (.frameArrival t .L true f) s = .next (reported.forward .P .ordinary f)) ∧
    (p.status (payload f) ≠ p.successStatus →
      exec (.frameArrival t .L true f) s = .next (s1.forward .P .ordinary f))

/-- The endings of a transaction (R99 to R103, R105 to R107): a write reply of an identified station that matches the SENT
transaction of its station and tag ends it with SUCCESS or FAILURE, one that matches none is counted as unmatched, and both
are forwarded; a SENT transaction whose deadline is reached ends with TIMEOUT. An ending removes the transaction, releases
its slots, raises its event and reports a CHANGE-mode ending, in this order. That the reply is forwarded after all of it is
notes/assumptions/15.md. -/
def Obligations.TransactionEndings : Prop :=
  (∀ (s : State) (x : Txn) (o : TxnOutcome) (status : Octet), TableSound s → x ∈ s.txns →
    let ended : State :=
      { s with txns := s.txns.filter fun y => decide (y ≠ x), image := releasedImage s.image x o }
    let key := (x.slots.head?.bind fun i => s.settings.activeBank[i]).map fun r => (r.key.area, r.key.index)
    let told := match o with
      | .success | .discard => ended
      | .failure => ended.raise
          { kind := .stationRejected, natural := 3, station := some x.ref.station, key := key,
            valueA := some x.ref.tag.toNat, valueB := some status.toNat, reason := some (.mode x.mode),
            source := some x.requester }
      | .timeout => ended.raise
          { kind := .replyTimeout, natural := 4, station := some x.ref.station, key := key,
            valueA := some x.ref.tag.toNat, reason := some (.mode x.mode), source := some x.requester }
    (x.mode = .run → s.endTxn x o status = told) ∧
    (x.mode = .change → told.window.isOpen = true → o = .timeout →
      s.endTxn x o status = told.report .timeout (some x.ref.station)) ∧
    (x.mode = .change → told.window.isOpen = true → o ≠ .timeout → s.endTxn x o status = told) ∧
    (x.mode = .change → told.window.isOpen = false → s.endTxn x o status = told.examineDraining)) ∧
  (∀ (t : Nat) (f : List Octet) (prof : Fin 4) (n : Fin 32) (s : State), s.ready .L t → TableSound s →
    classifyArrival s.settings s.identity.address .L f = .identified .write prof n →
    let p := s.settings.profiles[prof]
    let s1 : State := { s with now := t }
    let r : TxnRef := ⟨n, p.tag (payload f)⟩
    (∀ x d, x ∈ s.txns → x.ref = r → x.state = .sent d →
      exec (.frameArrival t .L true f) s = .next
        ((s1.endTxn x (if p.status (payload f) = p.successStatus then .success else .failure)
          (p.status (payload f))).forward .P .ordinary f)) ∧
    ((∀ x d, x ∈ s.txns → x.ref = r → x.state ≠ .sent d) →
      exec (.frameArrival t .L true f) s = .next
        ({ s1 with unmatched := satInc s.unmatched }.forward .P .ordinary f))) ∧
  ∀ (t : Nat) (n : Fin 32) (tag : Word16) (s : State), s.phase = .running → s.now ≤ t → TableSound s →
    (∀ x d, x ∈ s.txns → x.ref = ⟨n, tag⟩ → x.state = .sent d → d ≤ t →
      exec (.transactionDeadline t n tag) s = .next ({ s with now := t }.endTxn x .timeout 0)) ∧
    ((∀ x d, x ∈ s.txns → x.ref = ⟨n, tag⟩ → x.state = .sent d → t < d) →
      exec (.transactionDeadline t n tag) s = .next { s with now := t })

/-! ### Egress and links -/

/-- Hand-over and selection (R133, R134, R136): a frame enters as the newest when the port is UP and the queue has room, and
is dropped and counted once otherwise; a selection is made only on an UP port whose transmitter is free, and by the table of
R136. An express frame selected alone and an ordinary frame that enters at the same moment are one selection with both
waiting, which adds 1 to the run count (R142, fourth line; notes/assumptions/25.md). A frame of the part's own carries no
transaction mark, and no frame that enters is in transmission (R132). -/
def Obligations.HandOverAndSelection : Prop :=
  (∀ (s : State) (p : Port) (k : QueueKind) (f : QueuedFrame) (o : List Octet) (x : Option TxnRef) (b : Bool),
    s.handOver p k f = s.setPort p ((s.port p).handOver s.now (s.settings.port p).share k f) ∧
    s.forward p k o = s.handOver p k (forwardedFrame o none) ∧
    s.selectOn p = s.setPort p ((s.port p).select (s.settings.port p).share) ∧
    forwardedFrame o x = ⟨o, .forwarded, x, false, false⟩ ∧ partFrame o b = ⟨o, .part, none, b, false⟩) ∧
  ∀ (now share : Nat) (k : QueueKind) (f : QueuedFrame) (ps : PortState),
    let c := ps.egress
    let room := (ps.queue k).length < (if k = .express then 32 else 64)
    let entered : PortState := match k with
      | .express => { ps with express := ps.express ++ [f] }
      | .ordinary => { ps with ordinary := ps.ordinary ++ [f] }
    let start := fun g : QueuedFrame => { g with inTransmission := true }
    let free := ∀ g, g ∈ ps.express ∨ g ∈ ps.ordinary → g.inTransmission = false
    let alone := k = .express ∧ free ∧ ps.ordinary = []
    let together := k = .ordinary ∧ ps.aloneAt = some now ∧ ps.ordinary = [] ∧ (∃ g ∈ ps.express, g.inTransmission = true) ∧
      ps.runCount < share
    (ps.up = true → room → alone → ps.handOver now share k f = { entered.select share with aloneAt := some now }) ∧
    (ps.up = true → room → together →
      ps.handOver now share k f = { entered with runCount := ps.runCount + 1, aloneAt := none }) ∧
    (ps.up = true → room → ¬ alone → ¬ together → ps.handOver now share k f = entered.select share) ∧
    (f.origin = .part → (ps.up = false ∨ ¬ room) →
      ps.handOver now share k f = { ps with egress := { c with lostPartFrames := satInc c.lostPartFrames } }) ∧
    (f.origin = .forwarded → ps.up = false →
      ps.handOver now share k f = { ps with egress := { c with downDrops := satInc c.downDrops } }) ∧
    (f.origin = .forwarded → ps.up = true → ¬ room → k = .express →
      ps.handOver now share k f = { ps with egress := { c with expressFullDrops := satInc c.expressFullDrops } }) ∧
    (f.origin = .forwarded → ps.up = true → ¬ room → k = .ordinary →
      ps.handOver now share k f = { ps with egress := { c with ordinaryFullDrops := satInc c.ordinaryFullDrops } }) ∧
    ((ps.up = false ∨ (∃ g, (g ∈ ps.express ∨ g ∈ ps.ordinary) ∧ g.inTransmission = true)) →
      ps.select share = ps) ∧
    (ps.up = true → (∀ g, g ∈ ps.express ∨ g ∈ ps.ordinary → g.inTransmission = false) →
      (ps.express = [] → ps.ordinary = [] → ps.select share = ps) ∧
      (∀ g rest, ps.ordinary = g :: rest → (ps.express = [] ∨ share ≤ ps.runCount) →
        ps.select share = { ps with ordinary := start g :: rest, runCount := 0 }) ∧
      (∀ g rest, ps.express = g :: rest → ps.ordinary ≠ [] → ps.runCount < share →
        ps.select share = { ps with express := start g :: rest, runCount := ps.runCount + 1 }) ∧
      (∀ g rest, ps.express = g :: rest → ps.ordinary = [] →
        ps.select share = { ps with express := start g :: rest }))

/-- A transmission completes (R138, part of R97): the frame leaves its queue and is counted as sent; a marked frame makes its
transaction SENT, with the deadline of its station's profile; a restart mark begins the warm start; then a selection is made.
A port with nothing in transmission has nothing to complete (notes/assumptions/19.md); the moment of a selection is the
model's own field (notes/assumptions/25.md). -/
def Obligations.TransmissionCompletes : Prop :=
  ∀ (t : Nat) (p : Port) (s : State), s.phase = .running → s.now ≤ t → PortSound (s.port p) →
    let s1 : State := { s with now := t }
    let ps := s.port p
    let sent := { ps.egress with framesSent := satInc ps.egress.framesSent }
    (∀ (k : QueueKind) (f : QueuedFrame) (rest : List QueuedFrame), ps.queue k = f :: rest → f.inTransmission = true →
      let freed := s1.setPort p (match k with
        | .express => { ps with express := rest, aloneAt := none, egress := sent }
        | .ordinary => { ps with ordinary := rest, aloneAt := none, egress := sent })
      let deadline := fun n : Fin 32 =>
        t + Config.ms (10 * s.settings.profiles[(s.station n).config.profile].replyTimeout.toNat)
      let reported : State := match f.txn with
        | none => freed
        | some r => { freed with txns := s.txns.map fun x =>
            if x.ref = r ∧ x.state = .queued then { x with state := .sent (deadline r.station) } else x }
      (f.restart = false → exec (.transmissionComplete t p) s = .next (reported.selectOn p)) ∧
      (f.restart = true → exec (.transmissionComplete t p) s = .next reported.beginWarmStart)) ∧
    (ps.transmitterFree = true → exec (.transmissionComplete t p) s = .next s1)

/-- A port goes DOWN (R140, R104; part of R1, R124): its queues are emptied, each frame is counted once and the run count is
0. On port L every QUEUED transaction is discarded and the LINK trigger is reported, in the order the world gives; a lost
RESTART reply begins the warm start. And a port comes UP, with no other effect (R141). That the order is an operand, and that
every QUEUED transaction of the table is discarded, are notes/assumptions/3.md and notes/assumptions/18.md, the loss of link
of a port already DOWN notes/assumptions/19.md, and the field that holds the moment of the loss notes/assumptions/25.md. -/
def Obligations.LinkChangesAct : Prop :=
  (∀ (w n : Nat) (c : BitVec w), (satAdd n c).toNat = min (c.toNat + n) (2 ^ w - 1)) ∧
  (∀ s : State, TableSound s →
    let gone := s.txns.filter fun x => x.isQueued
    let left : State :=
      { s with
        txns := s.txns.filter fun x => !x.isQueued
        image := gone.foldl (fun image x => releasedImage image x .discard) s.image }
    ((∃ x ∈ gone, x.mode = .change) → s.discardQueued = left.examineDraining) ∧
    ((∀ x ∈ gone, x.mode = .run) → s.discardQueued = left)) ∧
  ∀ (t : Nat) (p : Port) (order : LinkOrder) (s : State), s.phase = .running → s.now ≤ t →
    let ps := s.port p
    let s1 : State := { s with now := t }
    let count := fun o : Origin => (ps.allFrames.filter fun f => decide (f.origin = o)).length
    let flushed := s1.setPort p
      { phyUp := false, up := false, lostAt := some t, express := [], ordinary := [], runCount := 0, aloneAt := none,
        arrival := ps.arrival,
        egress := { ps.egress with
          downDrops := satAdd (count .forwarded) ps.egress.downDrops
          lostPartFrames := satAdd (count .part) ps.egress.lostPartFrames } }
    let lost := match p, order with
      | .P, _ => flushed
      | .L, .reportFirst => (flushed.report .link none).discardQueued
      | .L, .discardsFirst => flushed.discardQueued.report .link none
      | .L, .reportLast => flushed.discardQueued.report .link none
    (ps.up = true → (∀ f ∈ ps.allFrames, f.restart = false) → exec (.linkDown t p order) s = .next lost) ∧
    (ps.up = true → (∃ f ∈ ps.allFrames, f.restart = true) →
      (p = .P → exec (.linkDown t p order) s = .next flushed.beginWarmStart) ∧
      (p = .L → order = .reportLast →
        exec (.linkDown t p order) s = .next flushed.discardQueued.beginWarmStart) ∧
      (p = .L → order ≠ .reportLast → exec (.linkDown t p order) s = .next lost.beginWarmStart)) ∧
    (ps.up = false → exec (.linkDown t p order) s = .next (s1.setPort p { ps with phyUp := false })) ∧
    exec (.linkUp t p) s = .next (s1.setPort p { ps with phyUp := true, up := true, lostAt := none })

/-! ### Events -/

/-- The record the event unit makes of a raised event, its levels and rank (R144), and the masks that let it enter (R146). -/
def Obligations.EventLevelsAndMasks : Prop :=
  ∀ (st : Settings) (now : Nat) (r : Raised),
    let e := makeRecord st now r
    (r.natural = 7 → e.effective = 7 ∧ e.rank = 0) ∧
    (r.natural ≠ 7 → st.promotionA = some r.kind → e.effective = 6 ∧ e.rank = 2) ∧
    (r.natural ≠ 7 → st.promotionA ≠ some r.kind → st.promotionB = some r.kind → e.effective = 6 ∧ e.rank = 1) ∧
    (r.natural ≠ 7 → st.promotionA ≠ some r.kind → st.promotionB ≠ some r.kind →
      e.effective = r.natural ∧ e.rank = 0) ∧
    (e.kind = r.kind ∧ e.natural = r.natural ∧ e.forced = r.forced ∧ e.station = r.station ∧ e.key = r.key ∧
      e.valueA = r.valueA ∧ e.valueB = r.valueB ∧ e.reason = r.reason ∧ e.qualifier = r.qualifier ∧
      e.source = r.source ∧
      e.time = BitVec.ofNat 32 (now / 1000000)) ∧
    (mayEnter st e = true ↔ e.effective = 7 ∨ e.station = none ∨
      ∃ (n : Fin 32) (g : Fin 4), e.station = some n ∧ g.val = n.val / 8 ∧ st.stations[n].config.enters = true ∧
        st.groupEnables[g] = true)

/-- An event allowed to enter the queue (R147, by the priorities of R145): with room it joins; a full queue has one lowest
event, which gives way only if it is below level 7 and the new event has the higher priority; else the new event is
discarded; a full queue counts a loss either way. -/
def Obligations.EventJoinsDisplacesOrIsLost : Prop :=
  ∀ (events : List EventRecord) (lost : Word16) (e : EventRecord),
    (events.length < 32 → enterQueue events lost e = ⟨events ++ [e], lost, true⟩) ∧
    (events.length = 32 →
      ∃ (i : Nat) (x : EventRecord), events[i]? = some x ∧ (∀ j, j < 32 → j ≠ i → higherPriority events j i) ∧
        (x.effective < 7 → higherPriority (events ++ [e]) 32 i →
          enterQueue events lost e = ⟨events.eraseIdx i ++ [e], satInc lost, true⟩) ∧
        ((7 ≤ x.effective ∨ ¬ higherPriority (events ++ [e]) 32 i) →
          enterQueue events lost e = ⟨events, satInc lost, false⟩))

/-- What the taking of a raised event does (R148 to R151): TRIP and its pulse end move for level 7 only, the queue and the
lost count take the entry's result, ALARM follows the queue and the mask, a joined event's notice is handed over to the
destination port, and nothing else changes. A level-7 event is then reported, and the report closes an OPEN window when
LEVEL7 is in the trigger set. -/
def Obligations.RaisedEventIsTaken : Prop :=
  ∀ (s : State) (r : Raised),
    let e := makeRecord s.settings s.now r
    let entry := if mayEnter s.settings e then enterQueue s.events s.lost e else ⟨s.events, s.lost, false⟩
    let u := s.takeRaised r
    let notice := fun d : NoticeDestination => partFrame
      (formFrame d.address s.identity.address none s.settings.managementType
        (replyContent 0xC0#8 0 0 (eventOctets e ++ [BitVec.ofNat 8 entry.events.length] ++
          beOctets 2 entry.lost.toNat))) false
    u = { s with
      events := entry.events
      lost := entry.lost
      alarm := decide (∃ x ∈ entry.events, s.settings.alarmMask < x.effective)
      trip := if r.natural = 7 then true else s.trip
      pulseEnd := if r.natural = 7 then some (s.now + Config.ms 100) else s.pulseEnd
      portP := u.portP
      portL := u.portL } ∧
    ((entry.joined = false ∨ s.settings.notice = none) → u.portP = s.portP ∧ u.portL = s.portL) ∧
    (∀ d, entry.joined = true → s.settings.notice = some d →
      u.port d.port = (s.port d.port).handOver s.now (s.settings.port d.port).share .ordinary (notice d) ∧
      u.port d.port.other = s.port d.port.other) ∧
    (r.natural ≠ 7 → s.raise r = u) ∧
    (r.natural = 7 → s.settings.triggers.level7 = false → s.raise r = u) ∧
    (r.natural = 7 → s.settings.triggers.level7 = true → s.raise r = u.closeWindow (.trigger .level7 none))

/-- TAKE EVENT (R152, part of R145): of an empty queue it answers none; else the one event whose priority is above every
other's leaves the queue and is answered whole, with the occupancy left and the lost count, and ALARM is re-evaluated. Each
field of the 38 octets of an event record, here and in a notice, stands where the layout puts it, under the listed codes of
kinds and reasons (chapter 12, *Event record* and *Codes*). -/
def Obligations.TakeEventTakesTheHighest : Prop :=
  (∀ e : EventRecord,
    let o := eventOctets e
    let num := fun at_ n => beNat (slice o at_ n)
    let wide := fun v : Option Int => match v with
      | some v => v % 2 ^ 64
      | none => 0
    let reason := fun r : Option Reason => match r with
      | some r => r.code
      | none => 0#8
    o.length = 38 ∧ octetAt o 0 = e.kind.code ∧ octetAt o 1 = BitVec.ofNat 8 e.natural ∧
    octetAt o 2 = BitVec.ofNat 8 e.effective ∧ octetAt o 3 = BitVec.ofNat 8 e.rank ∧ octetAt o 4 = boolCode e.forced ∧
    (octetAt o 5).toNat = e.station.isSome.toNat + 2 * e.key.isSome.toNat + 4 * e.valueA.isSome.toNat +
      8 * e.valueB.isSome.toNat + 16 * e.reason.isSome.toNat + 32 * e.source.isSome.toNat ∧
    (octetAt o 6).toNat = (match e.station with
      | some n => n.val
      | none => 0) ∧
    ((octetAt o 7).toNat, num 8 2) = (match e.key with
      | some (a, i) => (a.val, i.toNat)
      | none => (0, 0)) ∧
    (num 10 8 : Int) = wide e.valueA ∧ (num 18 8 : Int) = wide e.valueB ∧ octetAt o 26 = reason e.reason ∧
    octetAt o 27 = reason e.qualifier ∧
    num 28 6 = (match e.source with
      | some m => m.toNat
      | none => 0) ∧
    num 34 4 = e.time.toNat) ∧
  ([.writeRefused, .writeClamped, .readRefused, .controlRefused, .programRefused, .stationUnknown, .malformed,
      .stationRejected, .replyTimeout, .drift, .envelopeBreach, .quarantined, .windowOpened, .windowClosed,
      .changeoverIncomplete, .keyFault, .storeInvalid, .saveFailed, .managementRefused, .forced] :
    List EventKind).map (·.code.toNat) = (List.range 20).map (· + 1) ∧
  ([.stationQuarantined, .areaClosed, .parameterBusy, .malformed, .outsideEnvelope, .offGrid, .stepExceeded,
      .rewriteForbidden, .noReference, .outOfReach, .tagInUse, .tableFull, .egressFull] :
    List Reason).map (·.code.toNat) = (List.range 13).map (· + 0x01) ∧
  ([.length, .truncated, .area, .count, .indexRange] : List Reason).map (·.code.toNat) = (List.range 5).map (· + 0x11) ∧
  ([.notInWindow, .notInService, .quarantined] : List Reason).map (·.code.toNat) = (List.range 3).map (· + 0x21) ∧
  ([.writeInFlight, .runEnvelope, .changeoverEnvelope] : List Reason).map (·.code.toNat) = (List.range 3).map (· + 0x31) ∧
  ([.request, .breach, .swap] : List Reason).map (·.code.toNat) = (List.range 3).map (· + 0x41) ∧
  ([.key, .expiry, .lineStart, .level7, .drift, .timeout, .link] : List Reason).map (·.code.toNat) =
    (List.range 7).map (· + 0x51) ∧
  ([.mode .run, .mode .change] : List Reason).map (·.code.toNat) = [0x61, 0x62] ∧
  (∀ c, (Reason.frameClass c).code = 0x70 + c.code) ∧
  ([.position .run, .position .changeover, .position .service] : List Reason).map (·.code.toNat) = [0x81, 0x82, 0x83] ∧
  (∀ c, (Reason.result c).code = 0x90 + c.code) ∧
  ∀ (q : Request) (s : State), Served .takeEvent q s →
    (s.events = [] → exec (.takeEvent q) s = .next
      ({ s with now := q.time }.replied s .takeEvent q .ok (List.replicate 40 0 ++ beOctets 2 s.lost.toNat))) ∧
    (s.events ≠ [] → ∃ (i : Nat) (e : EventRecord), s.events[i]? = some e ∧
      (∀ j, j < s.events.length → j ≠ i → higherPriority s.events i j) ∧
      exec (.takeEvent q) s = .next
        ({ s with
            now := q.time
            events := s.events.eraseIdx i
            alarm := decide (∃ x ∈ s.events.eraseIdx i, s.settings.alarmMask < x.effective) }.replied s .takeEvent q .ok
          ([1] ++ eventOctets e ++ [BitVec.ofNat 8 (s.events.length - 1)] ++ beOctets 2 s.lost.toNat)))

/-- FORCE EVENT (part of R153) raises one FORCED event and answers what became of it; a level or value out of range is
BAD-VALUE. SET EVENT CONTROL (R154) replaces every field it carries, re-evaluates ALARM and answers the mask in force; a
field outside its values, and only that, is BAD-VALUE and two equal promotion slots are DUPLICATE; the fields are those its
octets carry, and the 32 station marks go into the station entries. -/
def Obligations.EventRequestsAct : Prop :=
  (∀ (q : Request) (s : State), Served .forceEvent q s →
    let level := (octetAt (argsOf q) 0).toNat
    let value := toSigned 8 (beNat (slice (argsOf q) 1 8))
    let s1 : State := { s with now := q.time }
    let r : Raised :=
      { kind := .forced, natural := level, forced := true, valueA := some value, source := some q.requester }
    let entry := enterQueue s.events s.lost (makeRecord s.settings q.time r)
    let fits := 1 ≤ level ∧ level ≤ 7 ∧ -2147483648 ≤ value ∧ value ≤ 281474976710655
    (fits → exec (.forceEvent q) s = .next ((s1.raise r).replied s .forceEvent q .ok
      ([if entry.joined then 1 else 2, BitVec.ofNat 8 entry.events.length] ++ beOctets 2 entry.lost.toNat))) ∧
    (¬ fits → exec (.forceEvent q) s = .next (s.denied .forceEvent q .badValue))) ∧
  (∀ (q : Request) (s : State), Served .setEventControl q s →
    (readEventControl s.identity.address (argsOf q) = none →
      exec (.setEventControl q) s = .next (s.denied .setEventControl q .badValue)) ∧
    ∀ c, readEventControl s.identity.address (argsOf q) = some c →
      (c.promotionA = c.promotionB → c.promotionA ≠ none →
        exec (.setEventControl q) s = .next (s.denied .setEventControl q .duplicate)) ∧
      (c.promotionA ≠ c.promotionB ∨ c.promotionA = none →
        exec (.setEventControl q) s = .next
          ({ s with
              now := q.time
              settings :=
                { s.settings with
                  stations := tabulate fun n =>
                    { s.station n with config := { (s.station n).config with enters := c.enters[n] } }
                  alarmMask := c.alarmMask
                  groupEnables := c.groupEnables
                  promotionA := c.promotionA
                  promotionB := c.promotionB
                  notice := c.notice }
              alarm := decide (∃ x ∈ s.events, c.alarmMask < x.effective) }.replied s .setEventControl q .ok
            [BitVec.ofNat 8 c.alarmMask]))) ∧
  (∀ (own : Mac) (o : List Octet),
    let slotGood := fun x : Octet => x = 0 ∨
      ∃ k : EventKind, x = k.code ∧ k ≠ .envelopeBreach ∧ k ≠ .storeInvalid ∧ k ≠ .forced
    (∃ c, readEventControl own o = some c) ↔
      (∀ i, 1 ≤ i → i ≤ 36 → octetAt o i = 0 ∨ octetAt o i = 1) ∧ slotGood (octetAt o 37) ∧ slotGood (octetAt o 38) ∧
      (octetAt o 39 = 0 ∨
        octetAt o 39 = 1 ∧ (octetAt o 40 = 1 ∨ octetAt o 40 = 2) ∧ macAt o 41 ≠ own)) ∧
  ∀ (own : Mac) (o : List Octet) (c : EventControl), readEventControl own o = some c →
    let slot := fun k : Option EventKind => match k with
      | none => 0#8
      | some k => k.code
    c.alarmMask = min 6 (octetAt o 0).toNat ∧ (∀ n : Fin 32, octetAt o (1 + n.val) = boolCode c.enters[n]) ∧
    (∀ g : Fin 4, octetAt o (33 + g.val) = boolCode c.groupEnables[g]) ∧
    octetAt o 37 = slot c.promotionA ∧ octetAt o 38 = slot c.promotionB ∧
    (∀ k, c.promotionA = some k ∨ c.promotionB = some k → k ≠ .envelopeBreach ∧ k ≠ .storeInvalid ∧ k ≠ .forced) ∧
    (c.notice = none → octetAt o 39 = 0) ∧
    ∀ d, c.notice = some d → octetAt o 39 = 1 ∧ octetAt o 40 = portCode d.port ∧ macAt o 41 = d.address ∧ d.address ≠ own

/-! ### The lock, the managers, the settings, the store and the starts -/

/-- LOCK TABLES, UNLOCK TABLES, SET MANAGERS, SET PORT SETTINGS and SET WINDOW SETTINGS: accepted, each replaces its own
settings and answers those in force; a bad field is BAD-VALUE, a repeated manager DUPLICATE (R162, R163, R168 in part; R118,
R169). -/
def Obligations.SystemRequestsAct : Prop :=
  ∀ (q : Request) (s : State),
    let put := fun st : Settings => { s with now := q.time, settings := st }
    (Served .lockTables q s → exec (.lockTables q) s = .next
      ((put { s.settings with lock := .locked }).replied s .lockTables q .ok [])) ∧
    (Served .unlockTables q s → exec (.unlockTables q) s = .next
      ((put { s.settings with lock := .unlocked }).replied s .unlockTables q .ok [])) ∧
    (∀ list : Vector (Option Mac) 4, Served .setManagers q s → argsOf q = list.toList.flatMap optMacOctets →
      (∀ i : Fin 4, list[i] ≠ some 0) →
      ((∃ i : Fin 4, ∃ m, list[i] = some m ∧ (isGroup m = true ∨ m = s.identity.address)) →
        exec (.setManagers q) s = .next (s.denied .setManagers q .badValue)) ∧
      ((∀ (i : Fin 4) (m : Mac), list[i] = some m → isGroup m = false ∧ m ≠ s.identity.address) →
        ((∃ i j : Fin 4, i ≠ j ∧ list[i] = list[j] ∧ list[i] ≠ none) →
          exec (.setManagers q) s = .next (s.denied .setManagers q .duplicate)) ∧
        ((∀ i j : Fin 4, i ≠ j → list[i] = list[j] → list[i] = none) →
          exec (.setManagers q) s = .next
            ((put { s.settings with managers := list }).replied s .setManagers q .ok [])))) ∧
    (∀ (p l : ForeignPolicy) (a b : Octet) (m : Word16), Served .setPortSettings q s →
      argsOf q = [p.code, l.code, a, b] ++ beOctets 2 m.toNat →
      let share := fun x : Octet => max 1 (min 16 x.toNat)
      ((m.toNat < 0x0600 ∨ m = 0x8100#16 ∨ m = 0x8808#16) →
        exec (.setPortSettings q) s = .next (s.denied .setPortSettings q .badValue)) ∧
      (0x0600 ≤ m.toNat → m ≠ 0x8100#16 → m ≠ 0x8808#16 →
        exec (.setPortSettings q) s = .next
          ((put { s.settings with plant := ⟨p, share a⟩, line := ⟨l, share b⟩, managementType := m }).replied s
            .setPortSettings q .ok
            ([p.code, l.code, BitVec.ofNat 8 (share a), BitVec.ofNat 8 (share b)] ++ beOctets 2 m.toNat)))) ∧
    (Served .setPortSettings q s → (ForeignPolicy.ofCode (octetAt (argsOf q) 0) = none ∨
        ForeignPolicy.ofCode (octetAt (argsOf q) 1) = none) →
      exec (.setPortSettings q) s = .next (s.denied .setPortSettings q .badValue)) ∧
    (∀ (h : Nat) (t : TriggerSet), h < 65536 → Served .setWindowSettings q s → argsOf q = beOctets 2 h ++ [t.code] →
      (600 < h → exec (.setWindowSettings q) s = .next (s.denied .setWindowSettings q .badValue)) ∧
      (h ≤ 600 → exec (.setWindowSettings q) s = .next
        ((put { s.settings with holdOff := h, triggers := t }).replied s .setWindowSettings q .ok
          (beOctets 2 h ++ [t.code])))) ∧
    (Served .setWindowSettings q s → 32 ≤ (octetAt (argsOf q) 2).toNat →
      exec (.setWindowSettings q) s = .next (s.denied .setWindowSettings q .badValue))

/-- SAVE SETTINGS takes the copy of R171 (SERVICE as NORMAL), is SAVING and takes the store's mark away; the end of the save
writes the copy or raises SAVE-FAILED (part of R172, R173). RESTART answers with the restart mark on its reply; a reply
dropped at hand-over, the port full or DOWN, begins the warm start at once (part of R167, R170, R176). That a failed save
leaves the store's contents is notes/assumptions/17.md, and the end of a save where none runs notes/assumptions/19.md. -/
def Obligations.SaveAndRestartAct : Prop :=
  (∀ (q : Request) (s : State), Served .saveSettings q s →
    let kept := fun v : StationState => if v = .service then .normal else v
    let copy : Settings :=
      { s.settings with stations := tabulate fun n => { s.station n with state := kept (s.station n).state } }
    exec (.saveSettings q) s = .next
      ({ s with now := q.time, save := .saving copy, store := { s.store with mark := false } }.replied s .saveSettings q
        .ok [])) ∧
  (∀ (t : Nat) (verified : Bool) (s : State), s.phase = .running → s.now ≤ t →
    (∀ copy, s.save = .saving copy →
      (verified = true → exec (.saveEnd t verified) s = .next
        { s with now := t, store := ⟨true, true, copy⟩, save := .idle }) ∧
      (verified = false → exec (.saveEnd t verified) s = .next
        ({ s with now := t, store := { s.store with mark := false }, save := .failed }.raise
          { kind := .saveFailed, natural := 6 }))) ∧
    (s.saving = false → exec (.saveEnd t verified) s = .next { s with now := t })) ∧
  ∀ (q : Request) (s : State), Served .restart q s →
    let waiting : State := { s with now := q.time, restartPending := true }
    let c := (s.port q.port).egress
    ((s.port q.port).up = true → (s.port q.port).ordinary.length < 64 → exec (.restart q) s = .next
      (waiting.handOver q.port .ordinary (partFrame (replyOctets s .restart q .ok []) true))) ∧
    ((s.port q.port).up = false ∨ 64 ≤ (s.port q.port).ordinary.length → exec (.restart q) s = .next
      (waiting.setPort q.port
        { s.port q.port with egress := { c with lostPartFrames := satInc c.lostPartFrames } }).beginWarmStart)

/-- The starts (R174 to R177): what RESET empties and clears, the transmissions it abandons among it, what a cold start and a
warm start load, clear and keep, and what the end of a settings load samples and raises. The part leaves a loss of supply
with its store and its identity. The place of the sampling is notes/assumptions/16.md, the moment at which RESET clears and
the state without supply notes/assumptions/17.md, and the two times of each port that the starts clear are the model's own
(notes/assumptions/25.md). -/
def Obligations.StartsAct : Prop :=
  ∀ s : State,
    let kept := fun v : StationState => if v = .service then .normal else v
    let stored := s.store.contents
    let loaded := if s.store.mark && s.store.checkAgrees then
        { stored with stations := tabulate fun n => { stored.stations[n] with state := kept stored.stations[n].state } }
      else defaultSettings
    let cold := fun up : Bool =>
      (⟨up, up, none, [], [], 0, none, ⟨0, 0, 0, 0⟩, ⟨0, 0, 0, 0, 0⟩⟩ : PortState)
    let emptied := fun ps : PortState => { ps with express := [], ordinary := [], runCount := 0, aloneAt := none }
    let held : State :=
      { s with
        phase := .resetHeld
        events := []
        lost := 0
        alarm := false
        trip := false
        pulseEnd := none
        save := .idle
        restartPending := false
        portP := emptied s.portP
        portL := emptied s.portL
        image := Vector.replicate 512 .unknown
        txns := []
        window := .shut }
    let fresh : State :=
      { State.reset with
        phase := .loadingCold
        keyA := s.keyA
        keyB := s.keyB
        lstop := s.lstop
        identity := s.identity
        settings := loaded
        store := s.store
        portP := cold s.portP.phyUp
        portL := cold s.portL.phyUp
        pending := s.pending }
    (s.phase ≠ .off → exec .resetAsserted s = .next held) ∧
    (s.phase = .off ∨ s.phase = .resetHeld → exec .coldStart s = .next fresh) ∧
    s.beginWarmStart =
      { s with
        phase := .loadingWarm
        settings := { loaded with lock := s.settings.lock }
        save := .idle
        restartPending := false
        portP := emptied s.portP
        portL := emptied s.portL
        image := Vector.replicate 512 .unknown
        txns := []
        window := .shut
        alarm := decide (∃ e ∈ s.events, loaded.alarmMask < e.effective) } ∧
    (∀ t, s.phase.loading = true → s.now ≤ t →
      let u : State :=
        { s with
          now := t
          phase := .running
          key := ⟨contactCode s.keyA s.keyB, none⟩
          lineIn := ⟨if s.lstop then .stopped else .running, none⟩
          portP := { s.portP with up := s.portP.phyUp, lostAt := none }
          portL := { s.portL with up := s.portL.phyUp, lostAt := none } }
      let v := if s.store.mark && s.store.checkAgrees then u else u.raise { kind := .storeInvalid, natural := 7 }
      exec (.settingsLoadComplete t) s = .next
        (if contactCode s.keyA s.keyB = .fault then v.raise { kind := .keyFault, natural := 6 } else v)) ∧
    ∃ u : State, exec .powerLoss s = .next u ∧ u.phase = .off ∧ u.store = s.store ∧ u.identity = s.identity ∧
      u.txns = [] ∧ u.events = [] ∧ u.save = .idle

/-- The state right after reset has every property that the statements below keep (part of R56, R92, R94, R118, R132, R156,
R174, R175). Where the reset state holds values the manual leaves to each part, notes/assumptions/7.md and 8.md say so. -/
def Obligations.ResetIsSound : Prop := Sound State.reset

/-! ### What every step keeps -/

/-- The event queue holds at most 32 events, ALARM is asserted exactly while one of them is above the mask, TRIP exactly
while a pulse runs; and an event of effective level 7 leaves the queue only by TAKE EVENT, a cold start, RESET or the loss of
the supply (R147's and R150's invariants). -/
def Obligations.EventQueueKept : Prop :=
  (∀ s s' : State, step s = .next s' → EventUnitSound s → EventUnitSound s') ∧
  ∀ (c : Instr) (s s' : State), exec c s = .next s' → clearsAll c = false →
    mayCarry .takeEvent c = false → ∀ e : EventRecord, e.effective = 7 → s.events.count e ≤ s'.events.count e

/-- Station counters decrease only by CLEAR COUNTERS or a cold start (R37; the loss of the supply ends in a cold start). -/
def Obligations.StationCountersNeverFall : Prop :=
  ∀ (c : Instr) (s s' : State), exec c s = .next s' → clearsAll c = false → mayCarry .clearCounters c = false →
    ∀ n : Fin 32, s.counters[n].admitted.toNat ≤ s'.counters[n].admitted.toNat ∧
      s.counters[n].clamped.toNat ≤ s'.counters[n].clamped.toNat ∧
      s.counters[n].refused.toNat ≤ s'.counters[n].refused.toNat ∧
      s.counters[n].drift.toNat ≤ s'.counters[n].drift.toNat

/-- The transaction table keeps its bound, its unique station and tag pairs and its slot lists (part of R94, R95), and an
image slot is PENDING exactly while one transaction in the table lists it (R79's invariant). -/
def Obligations.TransactionsAndImageKept : Prop :=
  ∀ s s' : State, step s = .next s' → TableSound s → ImageSound s → TableSound s' ∧ ImageSound s'

/-- The order of the table is the order of the marked frames (R98's invariant; R96): SENT transactions stand before QUEUED
ones, and the marks on the frames of the ordinary queue of L are those of the QUEUED transactions, in order. -/
def Obligations.MarksFollowTheTable : Prop :=
  ∀ s s' : State, step s = .next s' → TableSound s → MarksSound s → MarksSound s'

/-- Both ports keep to R132, R136 and R141: capacities, one frame in transmission and that the oldest, nothing waiting while
the transmitter is free, nothing at all while the port is DOWN or a settings load is under way, the link state its PHY's. -/
def Obligations.QueuesKept : Prop :=
  ∀ s s' : State, step s = .next s' → WindowSound s → QueuesSound s → QueuesSound s'

/-- The window is OPEN only while the taken key position is CHANGEOVER and for at most 7200 s, and a station is in SERVICE
only while it is SERVICE (R29's invariant; part of R115, R119, R121, R123). -/
def Obligations.WindowAndServiceKept : Prop :=
  ∀ s s' : State, step s = .next s' → WindowSound s → ServiceSound s → WindowSound s' ∧ ServiceSound s'

/-- Every record of both banks stays consistent and every key unique (R43, R44), no address is both a station's own and a
gateway's and no gateway and number pair appears twice (R25's invariant); every profile in use keeps to its limits and no two
have one frame type and discriminator (R7), the address of a station in use is individual and not the part's (R24), and every
other setting stays in its range: in the working settings, in the store and in the copy of a running save. -/
def Obligations.SettingsKept : Prop :=
  ∀ s s' : State, step s = .next s' →
    (BanksSound s → BanksSound s') ∧ (StationsSound s → StationsSound s') ∧ (RangesSound s → RangesSound s')

/-- Under the lock, with the key in RUN, no step of a running part changes any configuration table, any bank, the active
designation, the staged-ready mark or the manager list, nor lifts the lock: only station states move (part of R164). -/
def Obligations.LockedTablesHold : Prop :=
  ∀ s s' : State, step s = .next s' → s.phase = .running → s'.phase = .running → s.settings.lock = .locked →
    s.keyPosition = .run → s'.settings.lock = .locked ∧ sameTables s'.settings s.settings

/-- A requester that is no manager, with the key out of SERVICE, changes nothing but what its refusals and replies themselves
touch: the present time, the ports, the event queue with its lost count, and ALARM (part of R160 to R162, R164). -/
def Obligations.NonManagerChangesNothing : Prop :=
  ∀ (k : RequestKind) (q : Request) (s s' : State), isManager s.settings.managers q.requester = false →
    s.keyPosition ≠ .service → exec (k.command q) s = .next s' →
    s' = { s with
      now := s'.now
      portP := s'.portP
      portL := s'.portL
      events := s'.events
      lost := s'.lost
      alarm := s'.alarm }
end

