-- ==== Sys2Proof/Laws/State.lean ====
section
/-! SUPPORT. For each update of the state, one lemma per field that says what the field is afterwards. -/

namespace Sys2Proof.Machine

@[simp] theorem setPort_phase (p : Port) (ps : PortState) (s : State) :
    (s.setPort p ps).phase = s.phase := by cases p <;> rfl
@[simp] theorem setPort_now (p : Port) (ps : PortState) (s : State) : (s.setPort p ps).now = s.now := by cases p <;> rfl
@[simp] theorem setPort_keyA (p : Port) (ps : PortState) (s : State) :
    (s.setPort p ps).keyA = s.keyA := by cases p <;> rfl
@[simp] theorem setPort_keyB (p : Port) (ps : PortState) (s : State) :
    (s.setPort p ps).keyB = s.keyB := by cases p <;> rfl
@[simp] theorem setPort_lstop (p : Port) (ps : PortState) (s : State) :
    (s.setPort p ps).lstop = s.lstop := by cases p <;> rfl
@[simp] theorem setPort_alarm (p : Port) (ps : PortState) (s : State) :
    (s.setPort p ps).alarm = s.alarm := by cases p <;> rfl
@[simp] theorem setPort_trip (p : Port) (ps : PortState) (s : State) :
    (s.setPort p ps).trip = s.trip := by cases p <;> rfl
@[simp] theorem setPort_pulseEnd (p : Port) (ps : PortState) (s : State) :
    (s.setPort p ps).pulseEnd = s.pulseEnd := by cases p <;> rfl
@[simp] theorem setPort_identity (p : Port) (ps : PortState) (s : State) :
    (s.setPort p ps).identity = s.identity := by cases p <;> rfl
@[simp] theorem setPort_settings (p : Port) (ps : PortState) (s : State) :
    (s.setPort p ps).settings = s.settings := by cases p <;> rfl
@[simp] theorem setPort_store (p : Port) (ps : PortState) (s : State) :
    (s.setPort p ps).store = s.store := by cases p <;> rfl
@[simp] theorem setPort_save (p : Port) (ps : PortState) (s : State) :
    (s.setPort p ps).save = s.save := by cases p <;> rfl
@[simp] theorem setPort_restartPending (p : Port) (ps : PortState) (s : State) :
    (s.setPort p ps).restartPending = s.restartPending := by cases p <;> rfl
@[simp] theorem setPort_malformed (p : Port) (ps : PortState) (s : State) :
    (s.setPort p ps).malformed = s.malformed := by cases p <;> rfl
@[simp] theorem setPort_unmatched (p : Port) (ps : PortState) (s : State) :
    (s.setPort p ps).unmatched = s.unmatched := by cases p <;> rfl
@[simp] theorem setPort_counters (p : Port) (ps : PortState) (s : State) :
    (s.setPort p ps).counters = s.counters := by cases p <;> rfl
@[simp] theorem setPort_image (p : Port) (ps : PortState) (s : State) :
    (s.setPort p ps).image = s.image := by cases p <;> rfl
@[simp] theorem setPort_txns (p : Port) (ps : PortState) (s : State) :
    (s.setPort p ps).txns = s.txns := by cases p <;> rfl
@[simp] theorem setPort_window (p : Port) (ps : PortState) (s : State) :
    (s.setPort p ps).window = s.window := by cases p <;> rfl
@[simp] theorem setPort_key (p : Port) (ps : PortState) (s : State) : (s.setPort p ps).key = s.key := by cases p <;> rfl
@[simp] theorem setPort_lineIn (p : Port) (ps : PortState) (s : State) :
    (s.setPort p ps).lineIn = s.lineIn := by cases p <;> rfl
@[simp] theorem setPort_events (p : Port) (ps : PortState) (s : State) :
    (s.setPort p ps).events = s.events := by cases p <;> rfl
@[simp] theorem setPort_lost (p : Port) (ps : PortState) (s : State) :
    (s.setPort p ps).lost = s.lost := by cases p <;> rfl
@[simp] theorem setPort_pending (p : Port) (ps : PortState) (s : State) :
    (s.setPort p ps).pending = s.pending := by cases p <;> rfl
@[simp] theorem setPort_port_self (p : Port) (ps : PortState) (s : State) :
    (s.setPort p ps).port p = ps := by cases p <;> rfl
@[simp] theorem setPort_port_other (p : Port) (ps : PortState) (s : State) : (s.setPort p ps).port p.other = s.port p.other := by
  cases p <;> rfl
@[simp] theorem setPort_P (ps : PortState) (s : State) : s.setPort .P ps = { s with portP := ps } := rfl
@[simp] theorem setPort_L (ps : PortState) (s : State) : s.setPort .L ps = { s with portL := ps } := rfl
@[simp] theorem port_P (s : State) : s.port .P = s.portP := rfl
@[simp] theorem port_L (s : State) : s.port .L = s.portL := rfl
@[simp] theorem setPort_port (p : Port) (s : State) : s.setPort p (s.port p) = s := by cases p <;> rfl
@[simp] theorem setPort_setPort (p : Port) (a b : PortState) (s : State) : (s.setPort p a).setPort p b = s.setPort p b := by
  cases p <;> rfl

@[simp] theorem withSettings_phase (st : Settings) (s : State) : (s.withSettings st).phase = s.phase := rfl
@[simp] theorem withSettings_now (st : Settings) (s : State) : (s.withSettings st).now = s.now := rfl
@[simp] theorem withSettings_keyA (st : Settings) (s : State) : (s.withSettings st).keyA = s.keyA := rfl
@[simp] theorem withSettings_keyB (st : Settings) (s : State) : (s.withSettings st).keyB = s.keyB := rfl
@[simp] theorem withSettings_lstop (st : Settings) (s : State) : (s.withSettings st).lstop = s.lstop := rfl
@[simp] theorem withSettings_alarm (st : Settings) (s : State) : (s.withSettings st).alarm = s.alarm := rfl
@[simp] theorem withSettings_trip (st : Settings) (s : State) : (s.withSettings st).trip = s.trip := rfl
@[simp] theorem withSettings_pulseEnd (st : Settings) (s : State) : (s.withSettings st).pulseEnd = s.pulseEnd := rfl
@[simp] theorem withSettings_identity (st : Settings) (s : State) : (s.withSettings st).identity = s.identity := rfl
@[simp] theorem withSettings_settings (st : Settings) (s : State) : (s.withSettings st).settings = st := rfl
@[simp] theorem withSettings_store (st : Settings) (s : State) : (s.withSettings st).store = s.store := rfl
@[simp] theorem withSettings_save (st : Settings) (s : State) : (s.withSettings st).save = s.save := rfl
@[simp] theorem withSettings_restartPending (st : Settings) (s : State) :
    (s.withSettings st).restartPending = s.restartPending := rfl
@[simp] theorem withSettings_portP (st : Settings) (s : State) : (s.withSettings st).portP = s.portP := rfl
@[simp] theorem withSettings_portL (st : Settings) (s : State) : (s.withSettings st).portL = s.portL := rfl
@[simp] theorem withSettings_malformed (st : Settings) (s : State) : (s.withSettings st).malformed = s.malformed := rfl
@[simp] theorem withSettings_unmatched (st : Settings) (s : State) : (s.withSettings st).unmatched = s.unmatched := rfl
@[simp] theorem withSettings_counters (st : Settings) (s : State) : (s.withSettings st).counters = s.counters := rfl
@[simp] theorem withSettings_image (st : Settings) (s : State) : (s.withSettings st).image = s.image := rfl
@[simp] theorem withSettings_txns (st : Settings) (s : State) : (s.withSettings st).txns = s.txns := rfl
@[simp] theorem withSettings_window (st : Settings) (s : State) : (s.withSettings st).window = s.window := rfl
@[simp] theorem withSettings_key (st : Settings) (s : State) : (s.withSettings st).key = s.key := rfl
@[simp] theorem withSettings_lineIn (st : Settings) (s : State) : (s.withSettings st).lineIn = s.lineIn := rfl
@[simp] theorem withSettings_events (st : Settings) (s : State) : (s.withSettings st).events = s.events := rfl
@[simp] theorem withSettings_lost (st : Settings) (s : State) : (s.withSettings st).lost = s.lost := rfl
@[simp] theorem withSettings_pending (st : Settings) (s : State) : (s.withSettings st).pending = s.pending := rfl

@[simp] theorem setStation_phase (n : Fin 32) (e : StationEntry) (s : State) : (s.setStation n e).phase = s.phase := rfl
@[simp] theorem setStation_now (n : Fin 32) (e : StationEntry) (s : State) : (s.setStation n e).now = s.now := rfl
@[simp] theorem setStation_keyA (n : Fin 32) (e : StationEntry) (s : State) : (s.setStation n e).keyA = s.keyA := rfl
@[simp] theorem setStation_keyB (n : Fin 32) (e : StationEntry) (s : State) : (s.setStation n e).keyB = s.keyB := rfl
@[simp] theorem setStation_lstop (n : Fin 32) (e : StationEntry) (s : State) : (s.setStation n e).lstop = s.lstop := rfl
@[simp] theorem setStation_alarm (n : Fin 32) (e : StationEntry) (s : State) : (s.setStation n e).alarm = s.alarm := rfl
@[simp] theorem setStation_trip (n : Fin 32) (e : StationEntry) (s : State) : (s.setStation n e).trip = s.trip := rfl
@[simp] theorem setStation_pulseEnd (n : Fin 32) (e : StationEntry) (s : State) :
    (s.setStation n e).pulseEnd = s.pulseEnd := rfl
@[simp] theorem setStation_identity (n : Fin 32) (e : StationEntry) (s : State) :
    (s.setStation n e).identity = s.identity := rfl
@[simp] theorem setStation_settings (n : Fin 32) (e : StationEntry) (s : State) :
    (s.setStation n e).settings = s.settings.setStation n e := rfl
@[simp] theorem setStation_store (n : Fin 32) (e : StationEntry) (s : State) : (s.setStation n e).store = s.store := rfl
@[simp] theorem setStation_save (n : Fin 32) (e : StationEntry) (s : State) : (s.setStation n e).save = s.save := rfl
@[simp] theorem setStation_restartPending (n : Fin 32) (e : StationEntry) (s : State) :
    (s.setStation n e).restartPending = s.restartPending := rfl
@[simp] theorem setStation_portP (n : Fin 32) (e : StationEntry) (s : State) : (s.setStation n e).portP = s.portP := rfl
@[simp] theorem setStation_portL (n : Fin 32) (e : StationEntry) (s : State) : (s.setStation n e).portL = s.portL := rfl
@[simp] theorem setStation_malformed (n : Fin 32) (e : StationEntry) (s : State) :
    (s.setStation n e).malformed = s.malformed := rfl
@[simp] theorem setStation_unmatched (n : Fin 32) (e : StationEntry) (s : State) :
    (s.setStation n e).unmatched = s.unmatched := rfl
@[simp] theorem setStation_counters (n : Fin 32) (e : StationEntry) (s : State) :
    (s.setStation n e).counters = s.counters := rfl
@[simp] theorem setStation_image (n : Fin 32) (e : StationEntry) (s : State) : (s.setStation n e).image = s.image := rfl
@[simp] theorem setStation_txns (n : Fin 32) (e : StationEntry) (s : State) : (s.setStation n e).txns = s.txns := rfl
@[simp] theorem setStation_window (n : Fin 32) (e : StationEntry) (s : State) :
    (s.setStation n e).window = s.window := rfl
@[simp] theorem setStation_key (n : Fin 32) (e : StationEntry) (s : State) : (s.setStation n e).key = s.key := rfl
@[simp] theorem setStation_lineIn (n : Fin 32) (e : StationEntry) (s : State) :
    (s.setStation n e).lineIn = s.lineIn := rfl
@[simp] theorem setStation_events (n : Fin 32) (e : StationEntry) (s : State) :
    (s.setStation n e).events = s.events := rfl
@[simp] theorem setStation_lost (n : Fin 32) (e : StationEntry) (s : State) : (s.setStation n e).lost = s.lost := rfl
@[simp] theorem setStation_pending (n : Fin 32) (e : StationEntry) (s : State) :
    (s.setStation n e).pending = s.pending := rfl

@[simp] theorem setCounters_phase (n : Fin 32) (c : StationCounters) (s : State) :
    (s.setCounters n c).phase = s.phase := rfl
@[simp] theorem setCounters_now (n : Fin 32) (c : StationCounters) (s : State) : (s.setCounters n c).now = s.now := rfl
@[simp] theorem setCounters_keyA (n : Fin 32) (c : StationCounters) (s : State) :
    (s.setCounters n c).keyA = s.keyA := rfl
@[simp] theorem setCounters_keyB (n : Fin 32) (c : StationCounters) (s : State) :
    (s.setCounters n c).keyB = s.keyB := rfl
@[simp] theorem setCounters_lstop (n : Fin 32) (c : StationCounters) (s : State) :
    (s.setCounters n c).lstop = s.lstop := rfl
@[simp] theorem setCounters_alarm (n : Fin 32) (c : StationCounters) (s : State) :
    (s.setCounters n c).alarm = s.alarm := rfl
@[simp] theorem setCounters_trip (n : Fin 32) (c : StationCounters) (s : State) :
    (s.setCounters n c).trip = s.trip := rfl
@[simp] theorem setCounters_pulseEnd (n : Fin 32) (c : StationCounters) (s : State) :
    (s.setCounters n c).pulseEnd = s.pulseEnd := rfl
@[simp] theorem setCounters_identity (n : Fin 32) (c : StationCounters) (s : State) :
    (s.setCounters n c).identity = s.identity := rfl
@[simp] theorem setCounters_settings (n : Fin 32) (c : StationCounters) (s : State) :
    (s.setCounters n c).settings = s.settings := rfl
@[simp] theorem setCounters_store (n : Fin 32) (c : StationCounters) (s : State) :
    (s.setCounters n c).store = s.store := rfl
@[simp] theorem setCounters_save (n : Fin 32) (c : StationCounters) (s : State) :
    (s.setCounters n c).save = s.save := rfl
@[simp] theorem setCounters_restartPending (n : Fin 32) (c : StationCounters) (s : State) :
    (s.setCounters n c).restartPending = s.restartPending := rfl
@[simp] theorem setCounters_portP (n : Fin 32) (c : StationCounters) (s : State) :
    (s.setCounters n c).portP = s.portP := rfl
@[simp] theorem setCounters_portL (n : Fin 32) (c : StationCounters) (s : State) :
    (s.setCounters n c).portL = s.portL := rfl
@[simp] theorem setCounters_malformed (n : Fin 32) (c : StationCounters) (s : State) :
    (s.setCounters n c).malformed = s.malformed := rfl
@[simp] theorem setCounters_unmatched (n : Fin 32) (c : StationCounters) (s : State) :
    (s.setCounters n c).unmatched = s.unmatched := rfl
@[simp] theorem setCounters_counters (n : Fin 32) (c : StationCounters) (s : State) :
    (s.setCounters n c).counters = s.counters.set n c := rfl
@[simp] theorem setCounters_image (n : Fin 32) (c : StationCounters) (s : State) :
    (s.setCounters n c).image = s.image := rfl
@[simp] theorem setCounters_txns (n : Fin 32) (c : StationCounters) (s : State) :
    (s.setCounters n c).txns = s.txns := rfl
@[simp] theorem setCounters_window (n : Fin 32) (c : StationCounters) (s : State) :
    (s.setCounters n c).window = s.window := rfl
@[simp] theorem setCounters_key (n : Fin 32) (c : StationCounters) (s : State) : (s.setCounters n c).key = s.key := rfl
@[simp] theorem setCounters_lineIn (n : Fin 32) (c : StationCounters) (s : State) :
    (s.setCounters n c).lineIn = s.lineIn := rfl
@[simp] theorem setCounters_events (n : Fin 32) (c : StationCounters) (s : State) :
    (s.setCounters n c).events = s.events := rfl
@[simp] theorem setCounters_lost (n : Fin 32) (c : StationCounters) (s : State) :
    (s.setCounters n c).lost = s.lost := rfl
@[simp] theorem setCounters_pending (n : Fin 32) (c : StationCounters) (s : State) :
    (s.setCounters n c).pending = s.pending := rfl

@[simp] theorem setImage_phase (i : Fin 512) (v : ImageSlot) (s : State) : (s.setImage i v).phase = s.phase := rfl
@[simp] theorem setImage_now (i : Fin 512) (v : ImageSlot) (s : State) : (s.setImage i v).now = s.now := rfl
@[simp] theorem setImage_keyA (i : Fin 512) (v : ImageSlot) (s : State) : (s.setImage i v).keyA = s.keyA := rfl
@[simp] theorem setImage_keyB (i : Fin 512) (v : ImageSlot) (s : State) : (s.setImage i v).keyB = s.keyB := rfl
@[simp] theorem setImage_lstop (i : Fin 512) (v : ImageSlot) (s : State) : (s.setImage i v).lstop = s.lstop := rfl
@[simp] theorem setImage_alarm (i : Fin 512) (v : ImageSlot) (s : State) : (s.setImage i v).alarm = s.alarm := rfl
@[simp] theorem setImage_trip (i : Fin 512) (v : ImageSlot) (s : State) : (s.setImage i v).trip = s.trip := rfl
@[simp] theorem setImage_pulseEnd (i : Fin 512) (v : ImageSlot) (s : State) :
    (s.setImage i v).pulseEnd = s.pulseEnd := rfl
@[simp] theorem setImage_identity (i : Fin 512) (v : ImageSlot) (s : State) :
    (s.setImage i v).identity = s.identity := rfl
@[simp] theorem setImage_settings (i : Fin 512) (v : ImageSlot) (s : State) :
    (s.setImage i v).settings = s.settings := rfl
@[simp] theorem setImage_store (i : Fin 512) (v : ImageSlot) (s : State) : (s.setImage i v).store = s.store := rfl
@[simp] theorem setImage_save (i : Fin 512) (v : ImageSlot) (s : State) : (s.setImage i v).save = s.save := rfl
@[simp] theorem setImage_restartPending (i : Fin 512) (v : ImageSlot) (s : State) :
    (s.setImage i v).restartPending = s.restartPending := rfl
@[simp] theorem setImage_portP (i : Fin 512) (v : ImageSlot) (s : State) : (s.setImage i v).portP = s.portP := rfl
@[simp] theorem setImage_portL (i : Fin 512) (v : ImageSlot) (s : State) : (s.setImage i v).portL = s.portL := rfl
@[simp] theorem setImage_malformed (i : Fin 512) (v : ImageSlot) (s : State) :
    (s.setImage i v).malformed = s.malformed := rfl
@[simp] theorem setImage_unmatched (i : Fin 512) (v : ImageSlot) (s : State) :
    (s.setImage i v).unmatched = s.unmatched := rfl
@[simp] theorem setImage_counters (i : Fin 512) (v : ImageSlot) (s : State) :
    (s.setImage i v).counters = s.counters := rfl
@[simp] theorem setImage_image (i : Fin 512) (v : ImageSlot) (s : State) :
    (s.setImage i v).image = s.image.set i v := rfl
@[simp] theorem setImage_txns (i : Fin 512) (v : ImageSlot) (s : State) : (s.setImage i v).txns = s.txns := rfl
@[simp] theorem setImage_window (i : Fin 512) (v : ImageSlot) (s : State) : (s.setImage i v).window = s.window := rfl
@[simp] theorem setImage_key (i : Fin 512) (v : ImageSlot) (s : State) : (s.setImage i v).key = s.key := rfl
@[simp] theorem setImage_lineIn (i : Fin 512) (v : ImageSlot) (s : State) : (s.setImage i v).lineIn = s.lineIn := rfl
@[simp] theorem setImage_events (i : Fin 512) (v : ImageSlot) (s : State) : (s.setImage i v).events = s.events := rfl
@[simp] theorem setImage_lost (i : Fin 512) (v : ImageSlot) (s : State) : (s.setImage i v).lost = s.lost := rfl
@[simp] theorem setImage_pending (i : Fin 512) (v : ImageSlot) (s : State) : (s.setImage i v).pending = s.pending := rfl

@[simp] theorem removeTxn_phase (r : TxnRef) (s : State) : (s.removeTxn r).phase = s.phase := rfl
@[simp] theorem removeTxn_now (r : TxnRef) (s : State) : (s.removeTxn r).now = s.now := rfl
@[simp] theorem removeTxn_keyA (r : TxnRef) (s : State) : (s.removeTxn r).keyA = s.keyA := rfl
@[simp] theorem removeTxn_keyB (r : TxnRef) (s : State) : (s.removeTxn r).keyB = s.keyB := rfl
@[simp] theorem removeTxn_lstop (r : TxnRef) (s : State) : (s.removeTxn r).lstop = s.lstop := rfl
@[simp] theorem removeTxn_alarm (r : TxnRef) (s : State) : (s.removeTxn r).alarm = s.alarm := rfl
@[simp] theorem removeTxn_trip (r : TxnRef) (s : State) : (s.removeTxn r).trip = s.trip := rfl
@[simp] theorem removeTxn_pulseEnd (r : TxnRef) (s : State) : (s.removeTxn r).pulseEnd = s.pulseEnd := rfl
@[simp] theorem removeTxn_identity (r : TxnRef) (s : State) : (s.removeTxn r).identity = s.identity := rfl
@[simp] theorem removeTxn_settings (r : TxnRef) (s : State) : (s.removeTxn r).settings = s.settings := rfl
@[simp] theorem removeTxn_store (r : TxnRef) (s : State) : (s.removeTxn r).store = s.store := rfl
@[simp] theorem removeTxn_save (r : TxnRef) (s : State) : (s.removeTxn r).save = s.save := rfl
@[simp] theorem removeTxn_restartPending (r : TxnRef) (s : State) :
    (s.removeTxn r).restartPending = s.restartPending := rfl
@[simp] theorem removeTxn_portP (r : TxnRef) (s : State) : (s.removeTxn r).portP = s.portP := rfl
@[simp] theorem removeTxn_portL (r : TxnRef) (s : State) : (s.removeTxn r).portL = s.portL := rfl
@[simp] theorem removeTxn_malformed (r : TxnRef) (s : State) : (s.removeTxn r).malformed = s.malformed := rfl
@[simp] theorem removeTxn_unmatched (r : TxnRef) (s : State) : (s.removeTxn r).unmatched = s.unmatched := rfl
@[simp] theorem removeTxn_counters (r : TxnRef) (s : State) : (s.removeTxn r).counters = s.counters := rfl
@[simp] theorem removeTxn_image (r : TxnRef) (s : State) : (s.removeTxn r).image = s.image := rfl
@[simp] theorem removeTxn_txns (r : TxnRef) (s : State) :
    (s.removeTxn r).txns = s.txns.filter fun t => decide (t.ref ≠ r) := rfl
@[simp] theorem removeTxn_window (r : TxnRef) (s : State) : (s.removeTxn r).window = s.window := rfl
@[simp] theorem removeTxn_key (r : TxnRef) (s : State) : (s.removeTxn r).key = s.key := rfl
@[simp] theorem removeTxn_lineIn (r : TxnRef) (s : State) : (s.removeTxn r).lineIn = s.lineIn := rfl
@[simp] theorem removeTxn_events (r : TxnRef) (s : State) : (s.removeTxn r).events = s.events := rfl
@[simp] theorem removeTxn_lost (r : TxnRef) (s : State) : (s.removeTxn r).lost = s.lost := rfl
@[simp] theorem removeTxn_pending (r : TxnRef) (s : State) : (s.removeTxn r).pending = s.pending := rfl

@[simp] theorem txnSent_phase (r : TxnRef) (s : State) : (s.txnSent r).phase = s.phase := rfl
@[simp] theorem txnSent_now (r : TxnRef) (s : State) : (s.txnSent r).now = s.now := rfl
@[simp] theorem txnSent_keyA (r : TxnRef) (s : State) : (s.txnSent r).keyA = s.keyA := rfl
@[simp] theorem txnSent_keyB (r : TxnRef) (s : State) : (s.txnSent r).keyB = s.keyB := rfl
@[simp] theorem txnSent_lstop (r : TxnRef) (s : State) : (s.txnSent r).lstop = s.lstop := rfl
@[simp] theorem txnSent_alarm (r : TxnRef) (s : State) : (s.txnSent r).alarm = s.alarm := rfl
@[simp] theorem txnSent_trip (r : TxnRef) (s : State) : (s.txnSent r).trip = s.trip := rfl
@[simp] theorem txnSent_pulseEnd (r : TxnRef) (s : State) : (s.txnSent r).pulseEnd = s.pulseEnd := rfl
@[simp] theorem txnSent_identity (r : TxnRef) (s : State) : (s.txnSent r).identity = s.identity := rfl
@[simp] theorem txnSent_settings (r : TxnRef) (s : State) : (s.txnSent r).settings = s.settings := rfl
@[simp] theorem txnSent_store (r : TxnRef) (s : State) : (s.txnSent r).store = s.store := rfl
@[simp] theorem txnSent_save (r : TxnRef) (s : State) : (s.txnSent r).save = s.save := rfl
@[simp] theorem txnSent_restartPending (r : TxnRef) (s : State) : (s.txnSent r).restartPending = s.restartPending := rfl
@[simp] theorem txnSent_portP (r : TxnRef) (s : State) : (s.txnSent r).portP = s.portP := rfl
@[simp] theorem txnSent_portL (r : TxnRef) (s : State) : (s.txnSent r).portL = s.portL := rfl
@[simp] theorem txnSent_malformed (r : TxnRef) (s : State) : (s.txnSent r).malformed = s.malformed := rfl
@[simp] theorem txnSent_unmatched (r : TxnRef) (s : State) : (s.txnSent r).unmatched = s.unmatched := rfl
@[simp] theorem txnSent_counters (r : TxnRef) (s : State) : (s.txnSent r).counters = s.counters := rfl
@[simp] theorem txnSent_image (r : TxnRef) (s : State) : (s.txnSent r).image = s.image := rfl
@[simp] theorem txnSent_txns (r : TxnRef) (s : State) :
    (s.txnSent r).txns = s.txns.map fun t => t.complete r (s.replyDeadline r.station) := rfl
@[simp] theorem txnSent_window (r : TxnRef) (s : State) : (s.txnSent r).window = s.window := rfl
@[simp] theorem txnSent_key (r : TxnRef) (s : State) : (s.txnSent r).key = s.key := rfl
@[simp] theorem txnSent_lineIn (r : TxnRef) (s : State) : (s.txnSent r).lineIn = s.lineIn := rfl
@[simp] theorem txnSent_events (r : TxnRef) (s : State) : (s.txnSent r).events = s.events := rfl
@[simp] theorem txnSent_lost (r : TxnRef) (s : State) : (s.txnSent r).lost = s.lost := rfl
@[simp] theorem txnSent_pending (r : TxnRef) (s : State) : (s.txnSent r).pending = s.pending := rfl

@[simp] theorem reAlarm_phase (s : State) : (s.reAlarm).phase = s.phase := rfl
@[simp] theorem reAlarm_now (s : State) : (s.reAlarm).now = s.now := rfl
@[simp] theorem reAlarm_keyA (s : State) : (s.reAlarm).keyA = s.keyA := rfl
@[simp] theorem reAlarm_keyB (s : State) : (s.reAlarm).keyB = s.keyB := rfl
@[simp] theorem reAlarm_lstop (s : State) : (s.reAlarm).lstop = s.lstop := rfl
@[simp] theorem reAlarm_alarm (s : State) : (s.reAlarm).alarm = alarmLevel s.events s.settings.alarmMask := rfl
@[simp] theorem reAlarm_trip (s : State) : (s.reAlarm).trip = s.trip := rfl
@[simp] theorem reAlarm_pulseEnd (s : State) : (s.reAlarm).pulseEnd = s.pulseEnd := rfl
@[simp] theorem reAlarm_identity (s : State) : (s.reAlarm).identity = s.identity := rfl
@[simp] theorem reAlarm_settings (s : State) : (s.reAlarm).settings = s.settings := rfl
@[simp] theorem reAlarm_store (s : State) : (s.reAlarm).store = s.store := rfl
@[simp] theorem reAlarm_save (s : State) : (s.reAlarm).save = s.save := rfl
@[simp] theorem reAlarm_restartPending (s : State) : (s.reAlarm).restartPending = s.restartPending := rfl
@[simp] theorem reAlarm_portP (s : State) : (s.reAlarm).portP = s.portP := rfl
@[simp] theorem reAlarm_portL (s : State) : (s.reAlarm).portL = s.portL := rfl
@[simp] theorem reAlarm_malformed (s : State) : (s.reAlarm).malformed = s.malformed := rfl
@[simp] theorem reAlarm_unmatched (s : State) : (s.reAlarm).unmatched = s.unmatched := rfl
@[simp] theorem reAlarm_counters (s : State) : (s.reAlarm).counters = s.counters := rfl
@[simp] theorem reAlarm_image (s : State) : (s.reAlarm).image = s.image := rfl
@[simp] theorem reAlarm_txns (s : State) : (s.reAlarm).txns = s.txns := rfl
@[simp] theorem reAlarm_window (s : State) : (s.reAlarm).window = s.window := rfl
@[simp] theorem reAlarm_key (s : State) : (s.reAlarm).key = s.key := rfl
@[simp] theorem reAlarm_lineIn (s : State) : (s.reAlarm).lineIn = s.lineIn := rfl
@[simp] theorem reAlarm_events (s : State) : (s.reAlarm).events = s.events := rfl
@[simp] theorem reAlarm_lost (s : State) : (s.reAlarm).lost = s.lost := rfl
@[simp] theorem reAlarm_pending (s : State) : (s.reAlarm).pending = s.pending := rfl

@[simp] theorem startTrip_phase (s : State) : (s.startTrip).phase = s.phase := rfl
@[simp] theorem startTrip_now (s : State) : (s.startTrip).now = s.now := rfl
@[simp] theorem startTrip_keyA (s : State) : (s.startTrip).keyA = s.keyA := rfl
@[simp] theorem startTrip_keyB (s : State) : (s.startTrip).keyB = s.keyB := rfl
@[simp] theorem startTrip_lstop (s : State) : (s.startTrip).lstop = s.lstop := rfl
@[simp] theorem startTrip_alarm (s : State) : (s.startTrip).alarm = s.alarm := rfl
@[simp] theorem startTrip_trip (s : State) : (s.startTrip).trip = true := rfl
@[simp] theorem startTrip_pulseEnd (s : State) : (s.startTrip).pulseEnd = some (s.now + Config.tripLength) := rfl
@[simp] theorem startTrip_identity (s : State) : (s.startTrip).identity = s.identity := rfl
@[simp] theorem startTrip_settings (s : State) : (s.startTrip).settings = s.settings := rfl
@[simp] theorem startTrip_store (s : State) : (s.startTrip).store = s.store := rfl
@[simp] theorem startTrip_save (s : State) : (s.startTrip).save = s.save := rfl
@[simp] theorem startTrip_restartPending (s : State) : (s.startTrip).restartPending = s.restartPending := rfl
@[simp] theorem startTrip_portP (s : State) : (s.startTrip).portP = s.portP := rfl
@[simp] theorem startTrip_portL (s : State) : (s.startTrip).portL = s.portL := rfl
@[simp] theorem startTrip_malformed (s : State) : (s.startTrip).malformed = s.malformed := rfl
@[simp] theorem startTrip_unmatched (s : State) : (s.startTrip).unmatched = s.unmatched := rfl
@[simp] theorem startTrip_counters (s : State) : (s.startTrip).counters = s.counters := rfl
@[simp] theorem startTrip_image (s : State) : (s.startTrip).image = s.image := rfl
@[simp] theorem startTrip_txns (s : State) : (s.startTrip).txns = s.txns := rfl
@[simp] theorem startTrip_window (s : State) : (s.startTrip).window = s.window := rfl
@[simp] theorem startTrip_key (s : State) : (s.startTrip).key = s.key := rfl
@[simp] theorem startTrip_lineIn (s : State) : (s.startTrip).lineIn = s.lineIn := rfl
@[simp] theorem startTrip_events (s : State) : (s.startTrip).events = s.events := rfl
@[simp] theorem startTrip_lost (s : State) : (s.startTrip).lost = s.lost := rfl
@[simp] theorem startTrip_pending (s : State) : (s.startTrip).pending = s.pending := rfl

@[simp] theorem endTrip_phase (s : State) : (s.endTrip).phase = s.phase := rfl
@[simp] theorem endTrip_now (s : State) : (s.endTrip).now = s.now := rfl
@[simp] theorem endTrip_keyA (s : State) : (s.endTrip).keyA = s.keyA := rfl
@[simp] theorem endTrip_keyB (s : State) : (s.endTrip).keyB = s.keyB := rfl
@[simp] theorem endTrip_lstop (s : State) : (s.endTrip).lstop = s.lstop := rfl
@[simp] theorem endTrip_alarm (s : State) : (s.endTrip).alarm = s.alarm := rfl
@[simp] theorem endTrip_trip (s : State) : (s.endTrip).trip = false := rfl
@[simp] theorem endTrip_pulseEnd (s : State) : (s.endTrip).pulseEnd = none := rfl
@[simp] theorem endTrip_identity (s : State) : (s.endTrip).identity = s.identity := rfl
@[simp] theorem endTrip_settings (s : State) : (s.endTrip).settings = s.settings := rfl
@[simp] theorem endTrip_store (s : State) : (s.endTrip).store = s.store := rfl
@[simp] theorem endTrip_save (s : State) : (s.endTrip).save = s.save := rfl
@[simp] theorem endTrip_restartPending (s : State) : (s.endTrip).restartPending = s.restartPending := rfl
@[simp] theorem endTrip_portP (s : State) : (s.endTrip).portP = s.portP := rfl
@[simp] theorem endTrip_portL (s : State) : (s.endTrip).portL = s.portL := rfl
@[simp] theorem endTrip_malformed (s : State) : (s.endTrip).malformed = s.malformed := rfl
@[simp] theorem endTrip_unmatched (s : State) : (s.endTrip).unmatched = s.unmatched := rfl
@[simp] theorem endTrip_counters (s : State) : (s.endTrip).counters = s.counters := rfl
@[simp] theorem endTrip_image (s : State) : (s.endTrip).image = s.image := rfl
@[simp] theorem endTrip_txns (s : State) : (s.endTrip).txns = s.txns := rfl
@[simp] theorem endTrip_window (s : State) : (s.endTrip).window = s.window := rfl
@[simp] theorem endTrip_key (s : State) : (s.endTrip).key = s.key := rfl
@[simp] theorem endTrip_lineIn (s : State) : (s.endTrip).lineIn = s.lineIn := rfl
@[simp] theorem endTrip_events (s : State) : (s.endTrip).events = s.events := rfl
@[simp] theorem endTrip_lost (s : State) : (s.endTrip).lost = s.lost := rfl
@[simp] theorem endTrip_pending (s : State) : (s.endTrip).pending = s.pending := rfl

@[simp] theorem withEntry_phase (r : EntryResult) (s : State) : (s.withEntry r).phase = s.phase := rfl
@[simp] theorem withEntry_now (r : EntryResult) (s : State) : (s.withEntry r).now = s.now := rfl
@[simp] theorem withEntry_keyA (r : EntryResult) (s : State) : (s.withEntry r).keyA = s.keyA := rfl
@[simp] theorem withEntry_keyB (r : EntryResult) (s : State) : (s.withEntry r).keyB = s.keyB := rfl
@[simp] theorem withEntry_lstop (r : EntryResult) (s : State) : (s.withEntry r).lstop = s.lstop := rfl
@[simp] theorem withEntry_alarm (r : EntryResult) (s : State) :
    (s.withEntry r).alarm = alarmLevel r.events s.settings.alarmMask := rfl
@[simp] theorem withEntry_trip (r : EntryResult) (s : State) : (s.withEntry r).trip = s.trip := rfl
@[simp] theorem withEntry_pulseEnd (r : EntryResult) (s : State) : (s.withEntry r).pulseEnd = s.pulseEnd := rfl
@[simp] theorem withEntry_identity (r : EntryResult) (s : State) : (s.withEntry r).identity = s.identity := rfl
@[simp] theorem withEntry_settings (r : EntryResult) (s : State) : (s.withEntry r).settings = s.settings := rfl
@[simp] theorem withEntry_store (r : EntryResult) (s : State) : (s.withEntry r).store = s.store := rfl
@[simp] theorem withEntry_save (r : EntryResult) (s : State) : (s.withEntry r).save = s.save := rfl
@[simp] theorem withEntry_restartPending (r : EntryResult) (s : State) :
    (s.withEntry r).restartPending = s.restartPending := rfl
@[simp] theorem withEntry_portP (r : EntryResult) (s : State) : (s.withEntry r).portP = s.portP := rfl
@[simp] theorem withEntry_portL (r : EntryResult) (s : State) : (s.withEntry r).portL = s.portL := rfl
@[simp] theorem withEntry_malformed (r : EntryResult) (s : State) : (s.withEntry r).malformed = s.malformed := rfl
@[simp] theorem withEntry_unmatched (r : EntryResult) (s : State) : (s.withEntry r).unmatched = s.unmatched := rfl
@[simp] theorem withEntry_counters (r : EntryResult) (s : State) : (s.withEntry r).counters = s.counters := rfl
@[simp] theorem withEntry_image (r : EntryResult) (s : State) : (s.withEntry r).image = s.image := rfl
@[simp] theorem withEntry_txns (r : EntryResult) (s : State) : (s.withEntry r).txns = s.txns := rfl
@[simp] theorem withEntry_window (r : EntryResult) (s : State) : (s.withEntry r).window = s.window := rfl
@[simp] theorem withEntry_key (r : EntryResult) (s : State) : (s.withEntry r).key = s.key := rfl
@[simp] theorem withEntry_lineIn (r : EntryResult) (s : State) : (s.withEntry r).lineIn = s.lineIn := rfl
@[simp] theorem withEntry_events (r : EntryResult) (s : State) : (s.withEntry r).events = r.events := rfl
@[simp] theorem withEntry_lost (r : EntryResult) (s : State) : (s.withEntry r).lost = r.lost := rfl
@[simp] theorem withEntry_pending (r : EntryResult) (s : State) : (s.withEntry r).pending = s.pending := rfl

@[simp] theorem handOver_phase (p : Port) (k : QueueKind) (f : QueuedFrame) (s : State) :
    (s.handOver p k f).phase = s.phase := by cases p <;> rfl
@[simp] theorem handOver_now (p : Port) (k : QueueKind) (f : QueuedFrame) (s : State) :
    (s.handOver p k f).now = s.now := by cases p <;> rfl
@[simp] theorem handOver_keyA (p : Port) (k : QueueKind) (f : QueuedFrame) (s : State) :
    (s.handOver p k f).keyA = s.keyA := by cases p <;> rfl
@[simp] theorem handOver_keyB (p : Port) (k : QueueKind) (f : QueuedFrame) (s : State) :
    (s.handOver p k f).keyB = s.keyB := by cases p <;> rfl
@[simp] theorem handOver_lstop (p : Port) (k : QueueKind) (f : QueuedFrame) (s : State) :
    (s.handOver p k f).lstop = s.lstop := by cases p <;> rfl
@[simp] theorem handOver_alarm (p : Port) (k : QueueKind) (f : QueuedFrame) (s : State) :
    (s.handOver p k f).alarm = s.alarm := by cases p <;> rfl
@[simp] theorem handOver_trip (p : Port) (k : QueueKind) (f : QueuedFrame) (s : State) :
    (s.handOver p k f).trip = s.trip := by cases p <;> rfl
@[simp] theorem handOver_pulseEnd (p : Port) (k : QueueKind) (f : QueuedFrame) (s : State) :
    (s.handOver p k f).pulseEnd = s.pulseEnd := by cases p <;> rfl
@[simp] theorem handOver_identity (p : Port) (k : QueueKind) (f : QueuedFrame) (s : State) :
    (s.handOver p k f).identity = s.identity := by cases p <;> rfl
@[simp] theorem handOver_settings (p : Port) (k : QueueKind) (f : QueuedFrame) (s : State) :
    (s.handOver p k f).settings = s.settings := by cases p <;> rfl
@[simp] theorem handOver_store (p : Port) (k : QueueKind) (f : QueuedFrame) (s : State) :
    (s.handOver p k f).store = s.store := by cases p <;> rfl
@[simp] theorem handOver_save (p : Port) (k : QueueKind) (f : QueuedFrame) (s : State) :
    (s.handOver p k f).save = s.save := by cases p <;> rfl
@[simp] theorem handOver_restartPending (p : Port) (k : QueueKind) (f : QueuedFrame) (s : State) :
    (s.handOver p k f).restartPending = s.restartPending := by cases p <;> rfl
@[simp] theorem handOver_malformed (p : Port) (k : QueueKind) (f : QueuedFrame) (s : State) :
    (s.handOver p k f).malformed = s.malformed := by cases p <;> rfl
@[simp] theorem handOver_unmatched (p : Port) (k : QueueKind) (f : QueuedFrame) (s : State) :
    (s.handOver p k f).unmatched = s.unmatched := by cases p <;> rfl
@[simp] theorem handOver_counters (p : Port) (k : QueueKind) (f : QueuedFrame) (s : State) :
    (s.handOver p k f).counters = s.counters := by cases p <;> rfl
@[simp] theorem handOver_image (p : Port) (k : QueueKind) (f : QueuedFrame) (s : State) :
    (s.handOver p k f).image = s.image := by cases p <;> rfl
@[simp] theorem handOver_txns (p : Port) (k : QueueKind) (f : QueuedFrame) (s : State) :
    (s.handOver p k f).txns = s.txns := by cases p <;> rfl
@[simp] theorem handOver_window (p : Port) (k : QueueKind) (f : QueuedFrame) (s : State) :
    (s.handOver p k f).window = s.window := by cases p <;> rfl
@[simp] theorem handOver_key (p : Port) (k : QueueKind) (f : QueuedFrame) (s : State) :
    (s.handOver p k f).key = s.key := by cases p <;> rfl
@[simp] theorem handOver_lineIn (p : Port) (k : QueueKind) (f : QueuedFrame) (s : State) :
    (s.handOver p k f).lineIn = s.lineIn := by cases p <;> rfl
@[simp] theorem handOver_events (p : Port) (k : QueueKind) (f : QueuedFrame) (s : State) :
    (s.handOver p k f).events = s.events := by cases p <;> rfl
@[simp] theorem handOver_lost (p : Port) (k : QueueKind) (f : QueuedFrame) (s : State) :
    (s.handOver p k f).lost = s.lost := by cases p <;> rfl
@[simp] theorem handOver_pending (p : Port) (k : QueueKind) (f : QueuedFrame) (s : State) :
    (s.handOver p k f).pending = s.pending := by cases p <;> rfl
@[simp] theorem handOver_port_self (p : Port) (k : QueueKind) (f : QueuedFrame) (s : State) :
    (s.handOver p k f).port p = (s.port p).handOver s.now (s.settings.port p).share k f := by cases p <;> rfl
@[simp] theorem handOver_port_other (p : Port) (k : QueueKind) (f : QueuedFrame) (s : State) :
    (s.handOver p k f).port p.other = s.port p.other := by cases p <;> rfl

@[simp] theorem selectOn_phase (p : Port) (s : State) : (s.selectOn p).phase = s.phase := by cases p <;> rfl
@[simp] theorem selectOn_now (p : Port) (s : State) : (s.selectOn p).now = s.now := by cases p <;> rfl
@[simp] theorem selectOn_keyA (p : Port) (s : State) : (s.selectOn p).keyA = s.keyA := by cases p <;> rfl
@[simp] theorem selectOn_keyB (p : Port) (s : State) : (s.selectOn p).keyB = s.keyB := by cases p <;> rfl
@[simp] theorem selectOn_lstop (p : Port) (s : State) : (s.selectOn p).lstop = s.lstop := by cases p <;> rfl
@[simp] theorem selectOn_alarm (p : Port) (s : State) : (s.selectOn p).alarm = s.alarm := by cases p <;> rfl
@[simp] theorem selectOn_trip (p : Port) (s : State) : (s.selectOn p).trip = s.trip := by cases p <;> rfl
@[simp] theorem selectOn_pulseEnd (p : Port) (s : State) : (s.selectOn p).pulseEnd = s.pulseEnd := by cases p <;> rfl
@[simp] theorem selectOn_identity (p : Port) (s : State) : (s.selectOn p).identity = s.identity := by cases p <;> rfl
@[simp] theorem selectOn_settings (p : Port) (s : State) : (s.selectOn p).settings = s.settings := by cases p <;> rfl
@[simp] theorem selectOn_store (p : Port) (s : State) : (s.selectOn p).store = s.store := by cases p <;> rfl
@[simp] theorem selectOn_save (p : Port) (s : State) : (s.selectOn p).save = s.save := by cases p <;> rfl
@[simp] theorem selectOn_restartPending (p : Port) (s : State) :
    (s.selectOn p).restartPending = s.restartPending := by cases p <;> rfl
@[simp] theorem selectOn_malformed (p : Port) (s : State) : (s.selectOn p).malformed = s.malformed := by cases p <;> rfl
@[simp] theorem selectOn_unmatched (p : Port) (s : State) : (s.selectOn p).unmatched = s.unmatched := by cases p <;> rfl
@[simp] theorem selectOn_counters (p : Port) (s : State) : (s.selectOn p).counters = s.counters := by cases p <;> rfl
@[simp] theorem selectOn_image (p : Port) (s : State) : (s.selectOn p).image = s.image := by cases p <;> rfl
@[simp] theorem selectOn_txns (p : Port) (s : State) : (s.selectOn p).txns = s.txns := by cases p <;> rfl
@[simp] theorem selectOn_window (p : Port) (s : State) : (s.selectOn p).window = s.window := by cases p <;> rfl
@[simp] theorem selectOn_key (p : Port) (s : State) : (s.selectOn p).key = s.key := by cases p <;> rfl
@[simp] theorem selectOn_lineIn (p : Port) (s : State) : (s.selectOn p).lineIn = s.lineIn := by cases p <;> rfl
@[simp] theorem selectOn_events (p : Port) (s : State) : (s.selectOn p).events = s.events := by cases p <;> rfl
@[simp] theorem selectOn_lost (p : Port) (s : State) : (s.selectOn p).lost = s.lost := by cases p <;> rfl
@[simp] theorem selectOn_pending (p : Port) (s : State) : (s.selectOn p).pending = s.pending := by cases p <;> rfl

@[simp] theorem clock_phase (t : Nat) (s : State) : (s.clock t).phase = s.phase := by unfold State.clock; split <;> rfl
@[simp] theorem clock_keyA (t : Nat) (s : State) : (s.clock t).keyA = s.keyA := by unfold State.clock; split <;> rfl
@[simp] theorem clock_keyB (t : Nat) (s : State) : (s.clock t).keyB = s.keyB := by unfold State.clock; split <;> rfl
@[simp] theorem clock_lstop (t : Nat) (s : State) : (s.clock t).lstop = s.lstop := by unfold State.clock; split <;> rfl
@[simp] theorem clock_alarm (t : Nat) (s : State) : (s.clock t).alarm = s.alarm := by unfold State.clock; split <;> rfl
@[simp] theorem clock_trip (t : Nat) (s : State) : (s.clock t).trip = s.trip := by unfold State.clock; split <;> rfl
@[simp] theorem clock_pulseEnd (t : Nat) (s : State) : (s.clock t).pulseEnd = s.pulseEnd := by unfold State.clock; split <;> rfl
@[simp] theorem clock_identity (t : Nat) (s : State) : (s.clock t).identity = s.identity := by unfold State.clock; split <;> rfl
@[simp] theorem clock_settings (t : Nat) (s : State) : (s.clock t).settings = s.settings := by unfold State.clock; split <;> rfl
@[simp] theorem clock_store (t : Nat) (s : State) : (s.clock t).store = s.store := by unfold State.clock; split <;> rfl
@[simp] theorem clock_save (t : Nat) (s : State) : (s.clock t).save = s.save := by unfold State.clock; split <;> rfl
@[simp] theorem clock_restartPending (t : Nat) (s : State) : (s.clock t).restartPending = s.restartPending := by unfold State.clock; split <;> rfl
@[simp] theorem clock_portP (t : Nat) (s : State) : (s.clock t).portP = s.portP := by unfold State.clock; split <;> rfl
@[simp] theorem clock_portL (t : Nat) (s : State) : (s.clock t).portL = s.portL := by unfold State.clock; split <;> rfl
@[simp] theorem clock_malformed (t : Nat) (s : State) : (s.clock t).malformed = s.malformed := by unfold State.clock; split <;> rfl
@[simp] theorem clock_unmatched (t : Nat) (s : State) : (s.clock t).unmatched = s.unmatched := by unfold State.clock; split <;> rfl
@[simp] theorem clock_counters (t : Nat) (s : State) : (s.clock t).counters = s.counters := by unfold State.clock; split <;> rfl
@[simp] theorem clock_image (t : Nat) (s : State) : (s.clock t).image = s.image := by unfold State.clock; split <;> rfl
@[simp] theorem clock_txns (t : Nat) (s : State) : (s.clock t).txns = s.txns := by unfold State.clock; split <;> rfl
@[simp] theorem clock_window (t : Nat) (s : State) : (s.clock t).window = s.window := by unfold State.clock; split <;> rfl
@[simp] theorem clock_key (t : Nat) (s : State) : (s.clock t).key = s.key := by unfold State.clock; split <;> rfl
@[simp] theorem clock_lineIn (t : Nat) (s : State) : (s.clock t).lineIn = s.lineIn := by unfold State.clock; split <;> rfl
@[simp] theorem clock_events (t : Nat) (s : State) : (s.clock t).events = s.events := by unfold State.clock; split <;> rfl
@[simp] theorem clock_lost (t : Nat) (s : State) : (s.clock t).lost = s.lost := by unfold State.clock; split <;> rfl
@[simp] theorem clock_pending (t : Nat) (s : State) : (s.clock t).pending = s.pending := by unfold State.clock; split <;> rfl
theorem clock_now_le (t : Nat) (s : State) : s.now ≤ (s.clock t).now := by
  unfold State.clock; split <;> simp
/-- In a part that is alive the present time becomes the command's time where that is not past. -/
theorem clock_alive (t : Nat) (s : State) (h : s.phase.alive = true) (ht : s.now ≤ t) : s.clock t = { s with now := t } := by
  unfold State.clock; cases hp : s.phase <;> simp_all [Phase.alive]

end Sys2Proof.Machine
end

