-- ==== Sys2Proof/Laws/Frames.lean ====
section
/-! SUPPORT. What the shared operations of the event unit, the window controller, the image and the transaction table can
change at all: one lemma for each operation. -/

namespace Sys2Proof.Machine

/-- `u` is `s` but for the ports. -/
def OnlyPorts (s u : State) : Prop := u = { s with portP := u.portP, portL := u.portL }

/-- `u` is `s` but for what the taking of an event and the close of a window touch. -/
def OnlyEvents (s u : State) : Prop :=
  u = { s with
    window := u.window
    events := u.events
    lost := u.lost
    alarm := u.alarm
    trip := u.trip
    pulseEnd := u.pulseEnd
    portP := u.portP
    portL := u.portL }

theorem OnlyPorts.refl (s : State) : OnlyPorts s s := rfl

theorem OnlyEvents.refl (s : State) : OnlyEvents s s := rfl

theorem OnlyEvents.trans {s t u : State} (a : OnlyEvents s t) (b : OnlyEvents t u) : OnlyEvents s u := by
  unfold OnlyEvents at *; rw [b, a]

theorem OnlyPorts.toEvents {s u : State} (a : OnlyPorts s u) : OnlyEvents s u := by
  unfold OnlyPorts OnlyEvents at *; rw [a]

theorem OnlyEvents.settings {s u : State} (a : OnlyEvents s u) : u.settings = s.settings := by rw [a]
theorem OnlyEvents.phase {s u : State} (a : OnlyEvents s u) : u.phase = s.phase := by rw [a]
theorem OnlyEvents.now {s u : State} (a : OnlyEvents s u) : u.now = s.now := by rw [a]
theorem OnlyEvents.image {s u : State} (a : OnlyEvents s u) : u.image = s.image := by rw [a]
theorem OnlyEvents.txns {s u : State} (a : OnlyEvents s u) : u.txns = s.txns := by rw [a]
theorem OnlyEvents.counters {s u : State} (a : OnlyEvents s u) : u.counters = s.counters := by rw [a]
theorem OnlyEvents.key {s u : State} (a : OnlyEvents s u) : u.key = s.key := by rw [a]
theorem OnlyEvents.store {s u : State} (a : OnlyEvents s u) : u.store = s.store := by rw [a]
theorem OnlyEvents.save {s u : State} (a : OnlyEvents s u) : u.save = s.save := by rw [a]
theorem OnlyEvents.identity {s u : State} (a : OnlyEvents s u) : u.identity = s.identity := by rw [a]
theorem OnlyEvents.pending {s u : State} (a : OnlyEvents s u) : u.pending = s.pending := by rw [a]
theorem OnlyEvents.restartPending {s u : State} (a : OnlyEvents s u) : u.restartPending = s.restartPending := by rw [a]

/-! ### Hand-over and events -/

theorem handOver_onlyPorts (p : Port) (k : QueueKind) (f : QueuedFrame) (s : State) : OnlyPorts s (s.handOver p k f) := by
  cases p <;> rfl

theorem forward_onlyPorts (p : Port) (k : QueueKind) (o : List Octet) (s : State) : OnlyPorts s (s.forward p k o) :=
  handOver_onlyPorts p k _ s

theorem sendNotice_onlyPorts (e : EventRecord) (s : State) : OnlyPorts s (s.sendNotice e) := by
  unfold State.sendNotice
  split
  · rfl
  · exact handOver_onlyPorts _ _ _ s

/-- The taking of an event leaves the window as it is, and moves nothing that `OnlyEvents` keeps. -/
theorem takeRaised_onlyEvents (r : Raised) (s : State) :
    OnlyEvents s (s.takeRaised r) ∧ (s.takeRaised r).window = s.window := by
  have step : ∀ (u : State) (e : EntryResult) (x : EventRecord), OnlyEvents s u → u.window = s.window →
      OnlyEvents s (if e.joined then (u.withEntry e).sendNotice x else u.withEntry e) ∧
        (if e.joined then (u.withEntry e).sendNotice x else u.withEntry e).window = s.window := by
    intro u e x h hw
    have hu : OnlyEvents s (u.withEntry e) := by unfold OnlyEvents at *; rw [h]; rfl
    split
    · have hp := sendNotice_onlyPorts x (u.withEntry e)
      exact ⟨hu.trans hp.toEvents, by rw [hp]; exact hw⟩
    · exact ⟨hu, hw⟩
  unfold State.takeRaised
  by_cases h7 : (makeRecord s.settings s.now r).effective = 7
  · simp only [h7, ↓reduceIte]; exact step s.startTrip _ _ rfl rfl
  · simp only [h7, ↓reduceIte]; exact step s _ _ rfl rfl

/-! ### The window -/

theorem changeoverCheck_onlyEvents (s : State) :
    OnlyEvents s s.changeoverCheck ∧ s.changeoverCheck.window = s.window := by
  have fold : ∀ (l : List (Fin 32)) (u : State), OnlyEvents u (l.foldl checkStation u) ∧
      (l.foldl checkStation u).window = u.window := by
    intro l
    induction l with
    | nil => intro u; exact ⟨rfl, rfl⟩
    | cons n rest ih =>
      intro u
      have one : OnlyEvents u (checkStation u n) ∧ (checkStation u n).window = u.window := by
        unfold checkStation; dsimp only; split
        · exact takeRaised_onlyEvents _ u
        · exact ⟨rfl, rfl⟩
      exact ⟨one.1.trans (ih _).1, (ih _).2.trans one.2⟩
  exact fold _ s

theorem startHoldOff_onlyEvents (s : State) : OnlyEvents s s.startHoldOff := rfl

theorem examineDraining_onlyEvents (s : State) : OnlyEvents s s.examineDraining := by
  unfold State.examineDraining
  split
  · exact (changeoverCheck_onlyEvents s).1.trans (startHoldOff_onlyEvents _)
  · rfl

theorem closeWindow_onlyEvents (c : CloseCause) (s : State) : OnlyEvents s (s.closeWindow c) := by
  unfold State.closeWindow
  split
  · exact OnlyEvents.trans (t := { s with window := .draining }) rfl
      ((takeRaised_onlyEvents _ _).1.trans (examineDraining_onlyEvents _))
  all_goals rfl

theorem report_onlyEvents (t : Trigger) (n : Option (Fin 32)) (s : State) : OnlyEvents s (s.report t n) := by
  unfold State.report
  split
  · exact closeWindow_onlyEvents _ s
  · rfl

/-- Raising an event changes nothing but the ports, the event unit and the window. -/
theorem raise_onlyEvents (r : Raised) (s : State) : OnlyEvents s (s.raise r) := by
  unfold State.raise
  dsimp only
  split
  · exact (takeRaised_onlyEvents r s).1.trans (report_onlyEvents _ _ _)
  · exact (takeRaised_onlyEvents r s).1

/-- Below level 7 the raising of an event is its taking. -/
theorem raise_below_seven (r : Raised) (s : State) (h : r.natural ≠ 7) : s.raise r = s.takeRaised r := by
  unfold State.raise; simp [h]

theorem reportEnding_onlyEvents (o : TxnOutcome) (n : Fin 32) (s : State) : OnlyEvents s (s.reportEnding o n) := by
  unfold State.reportEnding
  split
  · split
    · exact report_onlyEvents _ _ s
    · rfl
  · exact examineDraining_onlyEvents s
  all_goals rfl

/-! ### The image -/

/-- Releasing a list of slots changes the image alone. -/
theorem releaseSlots_image (t : TxnRef) (o : TxnOutcome) (slots : List (Fin 512)) (s : State) :
    s.releaseSlots t o slots = { s with image := (s.releaseSlots t o slots).image } := by
  induction slots generalizing s with
  | nil => rfl
  | cons i rest ih =>
    change (s.setImage i _).releaseSlots t o rest = _
    rw [ih]; rfl

theorem holdSlots_image (t : TxnRef) (l : List Listed) (s : State) :
    s.holdSlots t l = { s with image := (s.holdSlots t l).image } := by
  induction l generalizing s with
  | nil => rfl
  | cons i rest ih =>
    change (s.setImage i.slot _).holdSlots t rest = _
    rw [ih]; rfl

/-! ### Commands -/

/-- A reply changes the ports alone, unless it is a RESTART's reply that its port will not take. -/
theorem sendReply_onlyPorts (p : Port) (o : List Octet) (restart : Bool) (s : State)
    (h : restart = false ∨ (s.port p).accepts .ordinary = true) : OnlyPorts s (s.sendReply p o restart) := by
  unfold State.sendReply
  rcases h with h | h <;> simp only [h, Bool.false_and, Bool.not_true, Bool.and_false, Bool.false_eq_true, ↓reduceIte]
  all_goals exact handOver_onlyPorts p _ _ s

end Sys2Proof.Machine
end

