-- ==== Sys2Proof/Laws/Events.lean ====
section
/-! SUPPORT. What can become of the event queue: taking the highest or the lowest event, and entry. -/

namespace Sys2Proof.Machine

/-- Taking the lowest event leaves the others, in their order. -/
theorem takeLowest_perm (es : List EventRecord) (l : EventRecord) (rest : List EventRecord)
    (h : takeLowest es = some (l, rest)) : (l :: rest).Perm es ∧ rest.Sublist es := by
  induction es generalizing l rest with
  | nil => cases h
  | cons e tl ih =>
    unfold takeLowest at h
    split at h
    · cases h; exact ⟨List.Perm.refl _, List.sublist_cons_self _ _⟩
    · next x others hx =>
      obtain ⟨hp, hs⟩ := ih x others hx
      split at h <;> cases h
      · exact ⟨List.Perm.refl _, List.sublist_cons_self _ _⟩
      · exact ⟨(List.Perm.swap _ _ _).trans (hp.cons e), hs.cons_cons e⟩

/-- Taking the highest event leaves the others, in their order. -/
theorem takeHighest_perm (es : List EventRecord) (h' : EventRecord) (rest : List EventRecord)
    (h : takeHighest es = some (h', rest)) : (h' :: rest).Perm es ∧ rest.Sublist es := by
  induction es generalizing h' rest with
  | nil => cases h
  | cons e tl ih =>
    unfold takeHighest at h
    split at h
    · cases h; exact ⟨List.Perm.refl _, List.sublist_cons_self _ _⟩
    · next x others hx =>
      obtain ⟨hp, hs⟩ := ih x others hx
      split at h <;> cases h
      · exact ⟨(List.Perm.swap _ _ _).trans (hp.cons e), hs.cons_cons e⟩
      · exact ⟨List.Perm.refl _, List.sublist_cons_self _ _⟩

/-- Everything an entry can come to (R147): the event joins a queue with room, displaces one event below level 7 from a full
queue, or is discarded. -/
theorem enterQueue_cases (events : List EventRecord) (lost : Word16) (e : EventRecord) :
    (events.length < 32 ∧ enterQueue events lost e = ⟨events ++ [e], lost, true⟩) ∨
    (32 ≤ events.length ∧ enterQueue events lost e = ⟨events, satInc lost, false⟩) ∨
    (32 ≤ events.length ∧ ∃ (l : EventRecord) (others : List EventRecord), takeLowest events = some (l, others) ∧
      l.effective < 7 ∧ beats e l = true ∧ enterQueue events lost e = ⟨others ++ [e], satInc lost, true⟩) := by
  unfold enterQueue
  by_cases hl : events.length < Config.maxEvents
  · exact .inl ⟨hl, by rw [if_pos hl]⟩
  · have h32 : 32 ≤ events.length := Nat.le_of_not_lt hl
    rw [if_neg hl]
    split
    · exact .inr (.inl ⟨h32, rfl⟩)
    · next l others hx =>
      split
      · next hb => exact .inr (.inr ⟨h32, l, others, hx, hb.1, hb.2, rfl⟩)
      · exact .inr (.inl ⟨h32, rfl⟩)

/-- The queue never grows past 32 events (R147). -/
theorem enterQueue_length (events : List EventRecord) (lost : Word16) (e : EventRecord) (h : events.length ≤ 32) :
    (enterQueue events lost e).events.length ≤ 32 := by
  rcases enterQueue_cases events lost e with ⟨hl, he⟩ | ⟨-, he⟩ | ⟨-, l, others, hx, -, -, he⟩ <;> rw [he]
  · simp only [List.length_append, List.length_singleton]; omega
  · exact h
  · have := (takeLowest_perm events l others hx).1.length_eq
    simp only [List.length_cons, List.length_append, List.length_nil] at *; omega

end Sys2Proof.Machine
end

