-- ==== Sys2Proof/Laws/Octets.lean ====
section
/-! SUPPORT. Octet lists: lengths and values of written fields, the FCS, and the tables built by `tabulate`. -/

namespace Sys2Proof.Machine

@[simp] theorem leOctets_length (n v : Nat) : (leOctets n v).length = n := by
  induction n generalizing v with
  | zero => rfl
  | succ n ih => simp [leOctets, ih]

@[simp] theorem beOctets_length (n v : Nat) : (beOctets n v).length = n := by simp [beOctets]

@[simp] theorem beOctetsInt_length (n : Nat) (v : Int) : (beOctetsInt n v).length = n := by simp [beOctetsInt]

@[simp] theorem word16Octets_length (w : Word16) : (word16Octets w).length = 2 := by simp [word16Octets]
@[simp] theorem word32Octets_length (w : Word32) : (word32Octets w).length = 4 := by simp [word32Octets]
@[simp] theorem macOctets_length (m : Mac) : (macOctets m).length = 6 := by simp [macOctets]

/-- A field read least significant octet first is the number written, its higher bits dropped. -/
theorem leNat_leOctets (n v : Nat) : leNat (leOctets n v) = v % 256 ^ n := by
  induction n generalizing v with
  | zero => simp [leOctets, leNat, Nat.mod_one]
  | succ n ih =>
    simp only [leOctets, leNat, ih, BitVec.toNat_ofNat]
    rw [show (256 : Nat) ^ (n + 1) = 256 * 256 ^ n by ring, Nat.mod_mul]

theorem beNat_append (a : List Octet) (o : Octet) : beNat (a ++ [o]) = 256 * beNat a + o.toNat := by
  induction a with
  | nil => simp [beNat]
  | cons x rest ih => simp only [List.cons_append, beNat, ih, List.length_append, List.length_singleton]; ring

theorem beNat_reverse (a : List Octet) : beNat a.reverse = leNat a := by
  induction a with
  | nil => rfl
  | cons x rest ih => rw [List.reverse_cons, beNat_append, ih]; simp only [leNat]; omega

/-- A field read most significant octet first is the number written, its higher bits dropped. -/
theorem beNat_beOctets (n v : Nat) : beNat (beOctets n v) = v % 256 ^ n := by
  rw [beOctets, beNat_reverse, leNat_leOctets]

@[simp] theorem fcsOctets_length (b : List Octet) : (fcsOctets b).length = 4 := by simp [fcsOctets]

@[simp] theorem withFcs_length (b : List Octet) : (withFcs b).length = b.length + 4 := by simp [withFcs]

@[simp] theorem frameBody_withFcs (b : List Octet) : frameBody (withFcs b) = b := by simp [frameBody, withFcs]

/-- A frame whose FCS the part computed passes the FCS check. -/
@[simp] theorem fcsGood_withFcs (b : List Octet) : fcsGood (withFcs b) = true := by
  unfold fcsGood
  rw [frameBody_withFcs]
  simp [withFcs]

@[simp] theorem getElem_tabulate {α : Type} {n : Nat} (f : Fin n → α) (i : Nat) (h : i < n) :
    (tabulate f)[i] = f ⟨i, h⟩ := by simp [tabulate]

/-! ### Lookup (R50) -/

/-- A slot found holds a record of the key. -/
theorem findSlot_some (b : Bank) (k : Key) (i : Fin 512) (h : findSlot b k = some i) :
    ∃ r : ParamRecord, b[i] = some r ∧ r.key = k := by
  unfold findSlot at h
  split at h
  · next j hj =>
    split at h
    · next hlt =>
      obtain rfl : (⟨j, hlt⟩ : Fin 512) = i := by simpa using h
      obtain ⟨hl, hp, -⟩ := List.findIdx?_eq_some_iff_getElem.mp hj
      rw [Vector.getElem_toList] at hp
      match hr : b[j], hp with
      | some r, hp => exact ⟨r, rfl, of_decide_eq_true hp⟩
    · cases h
  · cases h

/-- Where no slot is found no record has the key. -/
theorem findSlot_none (b : Bank) (k : Key) (h : findSlot b k = none) (i : Fin 512) (r : ParamRecord)
    (hr : b[i] = some r) : r.key ≠ k := by
  unfold findSlot at h
  split at h
  · next j hj =>
    obtain ⟨hl, -⟩ := List.findIdx?_eq_some_iff_getElem.mp hj
    rw [Vector.length_toList] at hl
    simp [hl] at h
  · next hj =>
    intro hk
    have hm := List.findIdx?_eq_none_iff.mp hj (some r) (by
      rw [← hr]; exact List.mem_of_getElem (i := i.val) (h := by simp) (by simp))
    simp [hk] at hm

/-- A lookup that succeeds returns a slot and the record that slot holds, whose key is the one asked for. -/
theorem lookup_some (b : Bank) (k : Key) (i : Fin 512) (r : ParamRecord) (h : lookup b k = some (i, r)) :
    b[i] = some r ∧ r.key = k := by
  unfold lookup at h
  split at h
  · next j hj =>
    obtain ⟨x, hx, hk⟩ := findSlot_some b k j hj
    rw [hx] at h
    obtain ⟨rfl, rfl⟩ : j = i ∧ x = r := by simpa using h
    exact ⟨hx, hk⟩
  · cases h

/-- A lookup that fails means the key is unlisted. -/
theorem lookup_none (b : Bank) (k : Key) (h : lookup b k = none) (i : Fin 512) (r : ParamRecord)
    (hr : b[i] = some r) : r.key ≠ k := by
  unfold lookup at h
  split at h
  · next j hj =>
    obtain ⟨x, hx, -⟩ := findSlot_some b k j hj
    rw [hx] at h; cases h
  · next hj => exact findSlot_none b k hj i r hr

end Sys2Proof.Machine
end

