-- ==== Sys2Proof/Laws/Fields.lean ====
section
/-! SUPPORT. Numbers read from frames: a field of a payload as the statements read it, a value as a kind reads it, and the
image once the slots of an admitted write are held. -/

namespace Sys2Proof.Machine

theorem octetAt_cons_succ (x : Octet) (o : List Octet) (i : Nat) : octetAt (x :: o) (i + 1) = octetAt o i := rfl

/-- A run read most significant octet first, as a sum over its positions. -/
theorem beNat_sum (o : List Octet) :
    beNat o = ((List.range o.length).map fun k => (octetAt o k).toNat * 256 ^ (o.length - 1 - k)).sum := by
  induction o with
  | nil => rfl
  | cons x rest ih =>
    rw [List.length_cons, List.range_succ_eq_map, List.map_cons, List.sum_cons, List.map_map, beNat, ih]
    congr 1
    refine congrArg List.sum (List.map_congr_left fun k _ => ?_)
    rw [Function.comp_apply, octetAt_cons_succ]
    congr 2
    omega

/-- A run read least significant octet first, as a sum over its positions. -/
theorem leNat_sum (o : List Octet) :
    leNat o = ((List.range o.length).map fun k => (octetAt o k).toNat * 256 ^ k).sum := by
  induction o with
  | nil => rfl
  | cons x rest ih =>
    rw [List.length_cons, List.range_succ_eq_map, List.map_cons, List.sum_cons, List.map_map, leNat, ih,
      ← List.sum_map_mul_left]
    congr 1
    · exact (Nat.mul_one _).symm
    · refine congrArg List.sum (List.map_congr_left fun k _ => ?_)
      rw [Function.comp_apply, octetAt_cons_succ, Nat.pow_succ]
      ring

theorem slice_length (o : List Octet) (i n : Nat) (h : i + n ≤ o.length) : (slice o i n).length = n := by
  simp only [slice, List.length_take, List.length_drop]
  omega

theorem octetAt_slice (o : List Octet) (i n k : Nat) (h : k < n) : octetAt (slice o i n) k = octetAt o (i + k) := by
  simp [octetAt, slice, List.getD_eq_getElem?_getD, h]

/-- A field of `n` octets holds a number below 256 to the `n`. -/
theorem beNat_lt (o : List Octet) : beNat o < 256 ^ o.length := by
  induction o with
  | nil => simp [beNat]
  | cons x r ih =>
    have := x.isLt
    simp only [beNat, List.length_cons, Nat.pow_succ]
    nlinarith

theorem slice_lt (o : List Octet) (i n : Nat) : beNat (slice o i n) < 256 ^ n :=
  lt_of_lt_of_le (beNat_lt _) (Nat.pow_le_pow_right (by omega) (by simp [slice]))

theorem word16At_toNat (o : List Octet) (i : Nat) : (word16At o i).toNat = beNat (slice o i 2) := by
  have := slice_lt o i 2
  simp [word16At]
  omega

theorem macAt_toNat (o : List Octet) (i : Nat) : (macAt o i).toNat = beNat (slice o i 6) := by
  have := slice_lt o i 6
  simp [macAt]
  omega

theorem finOfNat_some (n v : Nat) (x : Fin n) (h : finOfNat n v = some x) : x.val = v := by
  unfold finOfNat at h
  split at h <;> cases h
  rfl

/-- A field that lies within its octets is the number the statements read there (R6). -/
theorem Profile.number_slice (p : Profile) (o : List Octet) (i n : Nat) (hp : p.byteOrder ≠ none) (h : i + n ≤ o.length) :
    p.number (slice o i n) = p.reads o i n := by
  have hl := slice_length o i n h
  have step : ∀ e : Nat → Nat, ((List.range n).map fun k => (octetAt (slice o i n) k).toNat * 256 ^ e k) =
      (List.range n).map fun k => (octetAt o (i + k)).toNat * 256 ^ e k := fun e =>
    List.map_congr_left fun k hk => by rw [octetAt_slice o i n k (List.mem_range.mp hk)]
  unfold Profile.number Profile.reads
  split
  · next hb => rw [leNat_sum, hl, step fun k => k]; simp [hb]
  · next hb => rw [beNat_sum, hl, step fun k => n - 1 - k]; simp [hb]
  · next hb => exact absurd hb hp

/-- A bound of a parameter record is four octets as its kind reads them (R178). -/
theorem Kind.interpret_bound (k : Kind) (raw : Nat) : k.interpret 4 raw = kindReads k 4 raw := by
  cases k <;> simp [Kind.interpret, kindReads, Kind.signed, toSigned] <;> split_ifs <;> omega

/-- A value as the part interprets it is the value as the statements read it (R59). -/
theorem Kind.interpret_width (k : Kind) (raw : Nat) :
    k.width = kindOctets k ∧ k.interpret k.width raw = kindReads k (kindOctets k) raw := by
  refine ⟨by cases k <;> rfl, ?_⟩
  cases k <;> simp only [kindOctets, Kind.width, kindReads, Kind.interpret, Kind.signed, toSigned] <;>
    split_ifs <;> simp_all <;> omega

/-- The slots of an admitted write, held: each listed slot takes the first listed value that names it, where no two name one
slot, and every other slot is as before (R79). -/
theorem holdSlots_eq (t : TxnRef) (listed : List Listed) (s : State) (h : (listed.map (·.slot)).Nodup) :
    s.holdSlots t listed =
      { s with
        image := tabulate fun i => match listed.find? fun l => decide (l.slot = i) with
          | none => s.image[i]
          | some l => s.image[i].hold l.value t } := by
  induction listed generalizing s with
  | nil =>
    have : (tabulate fun i : Fin 512 => s.image[i]) = s.image :=
      Vector.ext fun i hi => getElem_tabulate (fun j : Fin 512 => s.image[j]) i hi
    simp only [State.holdSlots, List.foldl_nil, List.find?_nil]
    rw [this]
  | cons l rest ih =>
    rw [List.map_cons, List.nodup_cons] at h
    have hs : s.holdSlots t (l :: rest) = (s.setImage l.slot (s.image[l.slot].hold l.value t)).holdSlots t rest := rfl
    rw [hs, ih _ h.2]
    simp only [State.setImage]
    refine congrArg (fun v : Vector ImageSlot 512 => { s with image := v }) (Vector.ext fun i hi => ?_)
    simp only [getElem_tabulate, List.find?_cons]
    by_cases he : l.slot = ⟨i, hi⟩
    · have hn : rest.find? (fun x => decide (x.slot = ⟨i, hi⟩)) = none := by
        rw [List.find?_eq_none]
        intro x hx hx'
        exact h.1 (List.mem_map.mpr ⟨x, hx, (of_decide_eq_true hx').trans he.symm⟩)
      rw [hn]
      simp [he]
    · simp only [he, decide_false]
      have hne : l.slot.val ≠ i := fun x => he (Fin.ext x)
      split <;> rename_i hf <;> rw [hf] <;> simp [hne]

end Sys2Proof.Machine
end

