-- ==== Sys2Proof/Laws/PerInstr.lean ====
section
/-! SUPPORT. Statements made of each command in turn. -/

namespace Sys2Proof.Laws

/-- A well-formed command that carries a request carries one whose frame passes the length check of R2. -/
def FrameFits.Statement (i : Instr) : Prop :=
  i.wellFormed = true → ∀ q, i.carried = some q → 64 ≤ q.frameLength ∧ q.frameLength ≤ 1522

theorem frameFits_none (i : Instr) (h : i.carried = none) : FrameFits.Statement i := by
  intro _ q hq; rw [h] at hq; cases hq

theorem frameFits_some (i : Instr) (q : Request) (h : i.carried = some q) : FrameFits.Statement i := by
  intro hw r hr
  obtain rfl : q = r := Option.some.inj (h.symm.trans hr)
  unfold Instr.wellFormed at hw
  rw [h] at hw
  have hf : q.wellFormed = true := (Bool.and_eq_true_iff.mp hw).2
  unfold Request.wellFormed at hf
  obtain ⟨a, b⟩ := Bool.and_eq_true_iff.mp hf
  exact ⟨of_decide_eq_true a, of_decide_eq_true b⟩

theorem FrameFits.frameArrival (time : Nat) (port : Port) (whole : Bool) (octets : List Octet) : FrameFits.Statement (.frameArrival time port whole octets) :=
  frameFits_none _ rfl
theorem FrameFits.linkDown (time : Nat) (port : Port) (order : LinkOrder) : FrameFits.Statement (.linkDown time port order) :=
  frameFits_none _ rfl
theorem FrameFits.linkUp (time : Nat) (port : Port) : FrameFits.Statement (.linkUp time port) := frameFits_none _ rfl
theorem FrameFits.transmissionComplete (time : Nat) (port : Port) : FrameFits.Statement (.transmissionComplete time port) :=
  frameFits_none _ rfl
theorem FrameFits.transactionDeadline (time : Nat) (station : Fin 32) (tag : Word16) : FrameFits.Statement (.transactionDeadline time station tag) :=
  frameFits_none _ rfl
theorem FrameFits.keyContactChange (time : Nat) (keyA keyB : Bool) : FrameFits.Statement (.keyContactChange time keyA keyB) :=
  frameFits_none _ rfl
theorem FrameFits.keyCodeTaken (time : Nat) : FrameFits.Statement (.keyCodeTaken time) := frameFits_none _ rfl
theorem FrameFits.lstopChange (time : Nat) (lstop : Bool) : FrameFits.Statement (.lstopChange time lstop) :=
  frameFits_none _ rfl
theorem FrameFits.lineStateTaken (time : Nat) : FrameFits.Statement (.lineStateTaken time) := frameFits_none _ rfl
theorem FrameFits.windowDeadline (time : Nat) : FrameFits.Statement (.windowDeadline time) := frameFits_none _ rfl
theorem FrameFits.holdOffDeadline (time : Nat) : FrameFits.Statement (.holdOffDeadline time) := frameFits_none _ rfl
theorem FrameFits.tripPulseEnd (time : Nat) : FrameFits.Statement (.tripPulseEnd time) := frameFits_none _ rfl
theorem FrameFits.saveEnd (time : Nat) (verified : Bool) : FrameFits.Statement (.saveEnd time verified) :=
  frameFits_none _ rfl
theorem FrameFits.resetAsserted : FrameFits.Statement .resetAsserted := frameFits_none _ rfl
theorem FrameFits.coldStart : FrameFits.Statement .coldStart := frameFits_none _ rfl
theorem FrameFits.settingsLoadComplete (time : Nat) : FrameFits.Statement (.settingsLoadComplete time) :=
  frameFits_none _ rfl
theorem FrameFits.unknownRequest (version kind : Octet) (q : Request) : FrameFits.Statement (.unknownRequest version kind q) :=
  frameFits_some _ q rfl
theorem FrameFits.readIdentity (q : Request) : FrameFits.Statement (.readIdentity q) := frameFits_some _ q rfl
theorem FrameFits.readStatus (q : Request) : FrameFits.Statement (.readStatus q) := frameFits_some _ q rfl
theorem FrameFits.loadProfile (q : Request) : FrameFits.Statement (.loadProfile q) := frameFits_some _ q rfl
theorem FrameFits.readProfile (q : Request) : FrameFits.Statement (.readProfile q) := frameFits_some _ q rfl
theorem FrameFits.loadStation (q : Request) : FrameFits.Statement (.loadStation q) := frameFits_some _ q rfl
theorem FrameFits.readStation (q : Request) : FrameFits.Statement (.readStation q) := frameFits_some _ q rfl
theorem FrameFits.clearStation (q : Request) : FrameFits.Statement (.clearStation q) := frameFits_some _ q rfl
theorem FrameFits.loadAreaPolicy (q : Request) : FrameFits.Statement (.loadAreaPolicy q) := frameFits_some _ q rfl
theorem FrameFits.readCounters (q : Request) : FrameFits.Statement (.readCounters q) := frameFits_some _ q rfl
theorem FrameFits.clearCounters (q : Request) : FrameFits.Statement (.clearCounters q) := frameFits_some _ q rfl
theorem FrameFits.loadParameter (q : Request) : FrameFits.Statement (.loadParameter q) := frameFits_some _ q rfl
theorem FrameFits.clearParameter (q : Request) : FrameFits.Statement (.clearParameter q) := frameFits_some _ q rfl
theorem FrameFits.readParameter (q : Request) : FrameFits.Statement (.readParameter q) := frameFits_some _ q rfl
theorem FrameFits.copyActiveToStaged (q : Request) : FrameFits.Statement (.copyActiveToStaged q) :=
  frameFits_some _ q rfl
theorem FrameFits.markStagedReady (q : Request) : FrameFits.Statement (.markStagedReady q) := frameFits_some _ q rfl
theorem FrameFits.activateStaged (q : Request) : FrameFits.Statement (.activateStaged q) := frameFits_some _ q rfl
theorem FrameFits.readImage (q : Request) : FrameFits.Statement (.readImage q) := frameFits_some _ q rfl
theorem FrameFits.forgetImage (q : Request) : FrameFits.Statement (.forgetImage q) := frameFits_some _ q rfl
theorem FrameFits.openWindow (q : Request) : FrameFits.Statement (.openWindow q) := frameFits_some _ q rfl
theorem FrameFits.extendWindow (q : Request) : FrameFits.Statement (.extendWindow q) := frameFits_some _ q rfl
theorem FrameFits.closeWindow (q : Request) : FrameFits.Statement (.closeWindow q) := frameFits_some _ q rfl
theorem FrameFits.grantService (q : Request) : FrameFits.Statement (.grantService q) := frameFits_some _ q rfl
theorem FrameFits.endService (q : Request) : FrameFits.Statement (.endService q) := frameFits_some _ q rfl
theorem FrameFits.quarantineStation (q : Request) : FrameFits.Statement (.quarantineStation q) := frameFits_some _ q rfl
theorem FrameFits.releaseStation (q : Request) : FrameFits.Statement (.releaseStation q) := frameFits_some _ q rfl
theorem FrameFits.takeEvent (q : Request) : FrameFits.Statement (.takeEvent q) := frameFits_some _ q rfl
theorem FrameFits.forceEvent (q : Request) : FrameFits.Statement (.forceEvent q) := frameFits_some _ q rfl
theorem FrameFits.setEventControl (q : Request) : FrameFits.Statement (.setEventControl q) := frameFits_some _ q rfl
theorem FrameFits.lockTables (q : Request) : FrameFits.Statement (.lockTables q) := frameFits_some _ q rfl
theorem FrameFits.unlockTables (q : Request) : FrameFits.Statement (.unlockTables q) := frameFits_some _ q rfl
theorem FrameFits.setManagers (q : Request) : FrameFits.Statement (.setManagers q) := frameFits_some _ q rfl
theorem FrameFits.setPortSettings (q : Request) : FrameFits.Statement (.setPortSettings q) := frameFits_some _ q rfl
theorem FrameFits.setWindowSettings (q : Request) : FrameFits.Statement (.setWindowSettings q) := frameFits_some _ q rfl
theorem FrameFits.saveSettings (q : Request) : FrameFits.Statement (.saveSettings q) := frameFits_some _ q rfl
theorem FrameFits.restart (q : Request) : FrameFits.Statement (.restart q) := frameFits_some _ q rfl
theorem FrameFits.powerLoss : FrameFits.Statement .powerLoss := frameFits_none _ rfl

end Sys2Proof.Laws
end

