-- ==== Sys2Proof/Laws/Requests.lean ====
section
/-! SUPPORT. What a request command comes to: the one lemma through which a statement about an accepted request reaches its
owning rule. -/

namespace Sys2Proof.Machine

theorem exec_command (k : RequestKind) (q : Request) (s : State) :
    exec (k.command q) s = .next (s.request k (ownRule k) q) := by cases k <;> rfl

/-- On a port that receives, at a time that is not past, the clock shows the command's time and nothing else moves. -/
theorem clock_ready (p : Port) (t : Nat) (s : State) (h : s.ready p t) :
    s.clock t = { s with now := t } ∧ (s.clock t).receives p = true := by
  obtain ⟨hp, hu, ht⟩ := h
  have hc := clock_alive t s (by rw [hp]; rfl) ht
  refine ⟨hc, ?_⟩
  rw [hc]
  rcases hu with h | h <;> cases p <;> simp only [State.port] at h <;>
    simp [State.receives, State.port, PortState.heardAt, hp, h]

/-- A request that reaches the responder is served at its time. -/
theorem take_hears (q : Request) (serve : State → State) (s : State) (h : s.hears q) :
    s.take q serve = serve { s with now := q.time } := by
  obtain ⟨hc, hr⟩ := clock_ready q.port q.time s h.1
  unfold State.take
  dsimp only
  rw [if_pos hr, hc, h.2]
  rfl

/-- A served request meets no refusal before its owning rule. -/
theorem commonRefusal_served (k : RequestKind) (q : Request) (s : State) (h : Served k q s) :
    commonRefusal k q { s with now := q.time } = none := by
  obtain ⟨_, hr, ⟨hl, hf⟩, hm, hk, hb⟩ := h
  have hm' : ¬(k.privilege.needsManager = true ∧ isManager s.settings.managers q.requester = false) := fun x => by
    have := hm x.1; rw [x.2] at this; cases this
  have hb' : ¬(k.busyInSave = true ∧ s.saving = true) := fun x => by
    have := hb x.1; rw [x.2] at this; cases this
  have hl' : ¬(q.argLength.toNat ≠ k.argLength ∨ q.octets.length < k.argLength) := by omega
  have hr' : ¬(s.restartPending = true) := by rw [hr]; exact Bool.false_ne_true
  unfold commonRefusal
  dsimp only
  rw [if_neg hr', if_neg hl', if_neg hm']
  split
  · next c hc => exact absurd (hk.symm.trans hc) (by simp)
  · exact if_neg hb'

/-- An accepted request leaves the state of its owning rule, with its reply handed over. -/
theorem exec_accepted (k : RequestKind) (q : Request) (s u : State) (result : List Octet) (h : Served k q s)
    (ho : ownRule k q { s with now := q.time } = accept result u) :
    exec (k.command q) s = .next (u.replied s k q .ok result) := by
  rw [exec_command]
  unfold State.request
  rw [take_hears q _ s h.1]
  unfold judge
  rw [commonRefusal_served k q s h]
  simp only [ho]
  rfl

end Sys2Proof.Machine
end

