-- ==== Sys2Proof/Laws/Vetting.lean ====
section
/-! SUPPORT. Step 4 of the frame verdict: what it lists of the values of a WRITE frame. -/

namespace Sys2Proof.Machine

/-- A listed value has the position at which step 4 examined it. -/
theorem vetItem_position (s : State) (w : WriteRequest) (mode : TxnMode) (i raw : Nat) (l : Listed)
    (h : vetItem s w mode i raw = .ok (some l)) : l.position = i := by
  simp only [vetItem] at h
  repeat' split at h
  all_goals first
    | cases h; done
    | (cases h; rfl)

/-- What step 4 lists: in index order, exactly the values it admits as listed (R65, R68). -/
theorem vetItems_ok (s : State) (w : WriteRequest) (mode : TxnMode) (raws : List Nat) (k : Nat) (listed : List Listed)
    (h : vetItems s w mode raws k = .ok listed) :
    (listed.map (·.position)).Pairwise (· < ·) ∧
    ∀ l, l ∈ listed ↔ ∃ i raw, raws[i]? = some raw ∧ vetItem s w mode (k + i) raw = .ok (some l) := by
  induction raws generalizing k listed with
  | nil => cases h; simp
  | cons raw rest ih =>
    rw [vetItems] at h
    split at h
    · cases h
    · next item hi =>
      split at h
      · cases h
      · next items hr =>
        obtain ⟨hp, hm⟩ := ih (k + 1) items hr
        have later : ∀ l ∈ items, k < l.position := fun l hl => by
          obtain ⟨i, raw', -, hv⟩ := (hm l).mp hl
          rw [vetItem_position _ _ _ _ _ _ hv]; omega
        have shift : ∀ l, l ∈ items ↔
            ∃ i raw', rest[i]? = some raw' ∧ vetItem s w mode (k + (i + 1)) raw' = .ok (some l) := by
          intro l; rw [hm]; simp only [Nat.add_comm, Nat.add_left_comm]
        have mem : ∀ l,
            (∃ i raw', (raw :: rest)[i]? = some raw' ∧ vetItem s w mode (k + i) raw' = .ok (some l)) ↔
            item = some l ∨ l ∈ items := by
          intro l; rw [shift]
          constructor
          · rintro ⟨_ | i, raw', hr, hv⟩
            · cases hr; exact .inl (Except.ok.inj (hi.symm.trans hv))
            · exact .inr ⟨i, raw', hr, hv⟩
          · rintro (rfl | ⟨i, raw', hr, hv⟩)
            · exact ⟨0, raw, rfl, hi⟩
            · exact ⟨i + 1, raw', hr, hv⟩
        cases h
        cases item with
        | none => exact ⟨hp, fun l => by rw [mem]; simp⟩
        | some x =>
          refine ⟨List.pairwise_cons.mpr ⟨?_, hp⟩, fun l => ?_⟩
          · intro p hp'
            obtain ⟨l, hl, rfl⟩ := List.mem_map.mp hp'
            exact lt_of_eq_of_lt (vetItem_position _ _ _ _ _ _ hi) (later l hl)
          · rw [mem]; simp [eq_comm]

/-- Step 4 answers a list where it admits every value (R65). -/
theorem vetItems_complete (s : State) (w : WriteRequest) (mode : TxnMode) (raws : List Nat) (k : Nat)
    (h : ∀ i raw : Nat, raws[i]? = some raw → ∃ l, vetItem s w mode (k + i) raw = .ok l) :
    ∃ listed, vetItems s w mode raws k = .ok listed := by
  induction raws generalizing k with
  | nil => exact ⟨_, rfl⟩
  | cons raw rest ih =>
    obtain ⟨x, hx⟩ := h 0 raw rfl
    obtain ⟨items, hr⟩ := ih (k + 1) fun i raw' hr => by
      have := h (i + 1) raw' hr
      simpa only [Nat.add_comm, Nat.add_left_comm] using this
    rw [vetItems]; simp only [Nat.add_zero] at hx; rw [hx]; simp only [hr]; exact ⟨_, rfl⟩

/-- An admitted value whose key the bank lists is listed, with the record's slot and kind and the value its octets give
(R59, R68). -/
theorem vetItem_listed (s : State) (w : WriteRequest) (mode : TxnMode) (i raw : Nat) (slot : Fin 512) (r : ParamRecord)
    (hb : BankSound s.settings.activeBank) (hs : s.settings.activeBank[slot] = some r) (hk : r.key = w.key i)
    (x : Option Listed) (h : vetItem s w mode i raw = .ok x) :
    ∃ l, x = some l ∧ l.position = i ∧ l.slot = slot ∧ l.kind = r.kind ∧
      l.requested = kindReads r.kind (kindOctets r.kind) raw := by
  have hw := Kind.interpret_width r.kind raw
  simp only [vetItem] at h
  split at h
  · next hl => exact absurd hk (lookup_none _ _ hl slot r hs)
  · next slot' r' hl =>
    obtain ⟨h1, h2⟩ := lookup_some _ _ _ _ hl
    obtain rfl := hb.keys slot slot' r r' hs h1 (hk.trans h2.symm)
    obtain rfl : r = r' := Option.some.inj (hs.symm.trans h1)
    have key : ∀ n, ¬ r.kind.width ≠ n → r.kind.interpret n raw = kindReads r.kind (kindOctets r.kind) raw := by
      intro n hn; obtain rfl := not_not.mp hn; exact hw.2
    split at h
    · cases h
    all_goals
      split at h
      · cases h
      · next hn =>
        split at h
        · cases h; exact ⟨_, rfl, rfl, rfl, rfl, key _ hn⟩
        · cases h; exact ⟨_, rfl, rfl, rfl, rfl, key _ hn⟩
        · cases h

/-- A listed value has a record of the bank under its key, at its slot (R68). -/
theorem vetItem_record (s : State) (w : WriteRequest) (mode : TxnMode) (i raw : Nat) (l : Listed)
    (hb : BankSound s.settings.activeBank) (h : vetItem s w mode i raw = .ok (some l)) :
    ∃ r, s.settings.activeBank[l.slot] = some r ∧ r.key = w.key l.position ∧ l.kind = r.kind ∧
      l.requested = kindReads r.kind (kindOctets r.kind) raw := by
  cases hl : lookup s.settings.activeBank (w.key i) with
  | none => simp only [vetItem, hl] at h; split at h <;> cases h
  | some x =>
    obtain ⟨slot, r⟩ := x
    obtain ⟨h1, h2⟩ := lookup_some _ _ _ _ hl
    obtain ⟨l', h3, h4, h5, h6, h7⟩ := vetItem_listed s w mode i raw slot r hb h1 h2 _ h
    cases h3
    subst h4 h5; exact ⟨r, h1, h2, h6, h7⟩

end Sys2Proof.Machine
end

