-- ==== Sys2Proof/Tests/Slice0.lean ====
section
/-! SUPPORT. Tests: the well-formedness smoke test, octets and values of the manual's own examples, one small check for the
commands, and for each statement with hypotheses a named state and operands that meet them. -/

namespace Sys2Proof.Tests

open Sys2Proof Sys2Proof.Machine Sys2Proof.Config

-- The theorems are elaborated one after the other, which bounds the memory and threads this file takes.
set_option Elab.async false

/-! ### Small states and frames -/

/-- The engineering station, the filler controller and a gateway. -/
def eng : Mac := 0x02AA00000001#48
def filler : Mac := 0x02005A000021#48
def gate : Mac := 0x02005A000040#48
def own : Mac := resetIdentity.address

/-- A request from the engineering station on port P at 5 ms, its payload padded. -/
def ask (args : List Octet) : Request :=
  ⟨ms 5, .P, none, eng, 7, BitVec.ofNat 16 args.length, args ++ List.replicate 46 0⟩

/-- A profile of the kind of the manual's first example: tag at 0, station number at 2, function code at 3, status at 4, area
at 5, index at 6, count at 8, values of two octets from 10 on. -/
def prof : Profile :=
  { defaultProfile with
    inUse := true
    frameType := 0x88D2#16
    byteOrder := some .big
    minLength := 64
    maxLength := 512
    stationField := some 2
    tagField := some ⟨0, 2⟩
    functionOffset := 3
    statusOffset := 4
    areaOffset := 5
    indexOffset := 6
    countOffset := 8
    firstValueOffset := 10
    valueWidth := 2
    rewritePermitted := true
    functionMap := [⟨0x10, .cyclic, .request⟩, ⟨0x90, .cyclic, .reply⟩, ⟨0x03, .read, .request⟩, ⟨0x83, .read, .reply⟩,
      ⟨0x06, .write, .request⟩, ⟨0x86, .write, .reply⟩, ⟨0x20, .control, .request⟩, ⟨0x30, .program, .request⟩] }

/-- Fill volume (slot 0) and snift time (slot 2) of the manual's worked example of write vetting. -/
def fill : ParamRecord := ⟨⟨2, 2, 1200⟩, .u16, 4950, 5050, 3000, 10500, true, 10, 10, 5, .clamp, 4⟩
def snift : ParamRecord := ⟨⟨2, 2, 1201⟩, .u16, 280, 340, 100, 600, true, 20, 20, 10, .refuse, 3⟩

def fillerEntry : StationEntry :=
  { defaultStation with
    inUse := true
    config := ⟨.address, filler, 0, 0, true, true, true⟩
    policies := defaultStation.policies.set 2 ⟨.window, .pass⟩ }

def gateEntry : StationEntry := { defaultStation with inUse := true, config := ⟨.embedded, gate, 7, 0, false, false, true⟩ }

def plantSettings : Settings :=
  { defaultSettings with
    profiles := defaultSettings.profiles.set 0 prof
    stations := (defaultSettings.stations.set 2 fillerEntry).set 31 gateEntry
    bankA := (emptyBank.set 0 (some fill)).set 2 (some snift) }

/-- The part with that profile, two stations, two records and both values known. -/
def plant : State :=
  { State.reset with settings := plantSettings, image := (emptyImage.set 0 (.known 5000)).set 2 (.known 310) }

def withStation (e : StationEntry) (s : State) : State := s.setStation 2 e
def keyAt (k : KeyCode) (s : State) : State := { s with key := ⟨k, none⟩ }

/-- The payload of a frame under `prof`, and the frame between the engineering station and the filler. -/
def content (tag : Nat) (fc status area : Octet) (index : Nat) (count : Octet) (values : List Nat) : List Octet :=
  beOctets 2 tag ++ [7, fc, status, area] ++ beOctets 2 index ++ [count, 0] ++ values.flatMap (beOctets 2 ·)

def toFiller (c : List Octet) : List Octet := formFrame filler eng none 0x88D2#16 c
def fromFiller (c : List Octet) : List Octet := formFrame eng filler none 0x88D2#16 c

def writeFrame (tag index : Nat) (values : List Nat) : List Octet :=
  toFiller (content tag 0x06 0 2 index (BitVec.ofNat 8 values.length) values)

def next (c : Instr) (s : State) : State :=
  match exec c s with
  | .next t => t
  | .fault _ | .refused _ => s

def write (tag index : Nat) (values : List Nat) (s : State) : State :=
  next (.frameArrival 5 .P true (writeFrame tag index values)) s

/-! ### Well-formedness: each check refuses an ill-formed command -/

theorem test_wellFormed_frame : (Instr.frameArrival 0 .P true (List.replicate 18 0)).wellFormed = true := by decide
theorem test_illFormed_frame_short : (Instr.frameArrival 0 .P true (List.replicate 17 0)).wellFormed = false := by decide
theorem test_wellFormed_request : (Instr.readIdentity (ask [])).wellFormed = true := by decide
theorem test_illFormed_request_short :
    (Instr.readIdentity { ask [] with octets := List.replicate 40 0 }).wellFormed = false := by decide
theorem test_wellFormed_request_shortest :
    (Instr.readIdentity { ask [] with octets := List.replicate 41 0 }).wellFormed = true := by decide
theorem test_illFormed_request_long :
    (Instr.readIdentity { ask [] with octets := List.replicate 1500 0 }).wellFormed = false := by decide +kernel
theorem test_illFormed_unknown : (Instr.unknownRequest 1 0x23 (ask [])).wellFormed = false := by decide
theorem test_wellFormed_unknown : (Instr.unknownRequest 1 0x24 (ask [])).wellFormed = true := by decide

/-! ### Octets -/

/-- The check value of the IEEE 802.3 CRC-32 (notes/assumptions/4.md): that of the nine characters 123456789. -/
theorem test_crc_check_value :
    crc32 [0x31#8, 0x32#8, 0x33#8, 0x34#8, 0x35#8, 0x36#8, 0x37#8, 0x38#8, 0x39#8] = 0xCBF43926#32 := by decide +kernel

/-- The sizes chapter 12 gives its records. -/
theorem test_record_lengths : (profileOctets prof).length = 84 ∧ (stationConfigOctets fillerEntry.config).length = 12 ∧
    (paramOctets fill).length = 34 ∧ (eventOctets (makeRecord plantSettings 0 storeInvalidEvent)).length = 38 ∧
    (identityOctets resetIdentity).length = 20 ∧ (imageSlotOctets 0 (some fill) (.known 5000)).length = 28 ∧
    (statusOctets plant).length = 109 := by decide +kernel

/-- The kinds of the directory run from 0x01 to 0x23 in its order. -/
theorem test_request_kinds : allKinds.map (·.code.toNat) = (List.range 35).map (· + 1) := by decide

/-- A notice's and a short reply's frames have 64 octets (R158, R179). -/
theorem test_reply_padded : (formFrame eng own none 0x88B6#16 (replyContent 0x81#8 7 0 [])).length = 64 := by decide +kernel

/-! ### The vetting computation (the manual's examples of chapter 4) -/

/-- Fill volume trimmed off the grid: 5023 from 5000 is clamped to 5010, first altered by stage 2. -/
theorem test_vet_fill : vetValue fill .run (some 5000) true 5023 = .clamped 5010 .offGrid := by decide +kernel

/-- 305 from 310 is a tie that goes to the reference, and policy REFUSE refuses it OFF-GRID. -/
theorem test_vet_snift : vetValue snift .run (some 310) true 305 = .refused .offGrid none (some 310) := by decide +kernel

theorem test_vet_no_reference : vetValue fill .run none true 5000 = .refused .noReference none none := by decide +kernel

theorem test_vet_out_of_reach : vetValue fill .run (some 5100) true 5000 = .refused .outOfReach none none := by
  decide +kernel

/-! ### Frames to the filler (the worked example of chapter 4) -/

/-- Frame 1 is refused OFF-GRID; the clamped fill volume goes with it. -/
theorem test_write_refused : let s := write 0x0101 1200 [5023, 305] plant
    (s.events.map fun e => (e.kind, e.effective, e.valueA, e.valueB, e.reason)) =
      [(.writeRefused, 3, some 305, some 310, some .offGrid)] ∧
    s.image[0] = .known 5000 ∧ s.txns = [] ∧ s.counters[2] = ⟨0, 0, 1, 0⟩ := by decide +kernel

/-- Frame 2 is admitted with 5010: slot 0 is PENDING, and the frame waits in the ordinary queue of L, rewritten. -/
theorem test_write_clamped : let s := write 0x0102 1200 [5023] plant
    (s.events.map fun e => (e.kind, e.effective, e.valueA, e.valueB, e.reason)) =
      [(.writeClamped, 2, some 5023, some 5010, some .offGrid)] ∧
    s.image[0] = .pending (some 5000) 5010 ⟨2, 0x0102⟩ ∧ s.counters[2] = ⟨1, 1, 0, 0⟩ := by decide +kernel

theorem test_write_tracked : let s := write 0x0102 1200 [5023] plant
    s.txns = [⟨⟨2, 0x0102⟩, eng, .run, [0], .queued⟩] ∧
    (s.portL.ordinary.map (·.octets)) = [writeFrame 0x0102 1200 [5010]] := by decide +kernel

/-- Frame 3 meets the PENDING slot, and frame 4 the tag in use. -/
theorem test_write_busy_and_tag :
    ((write 0x0103 1200 [5000, 310] (write 0x0102 1200 [5023] plant)).events.map (·.reason)) =
      [some .offGrid, some .parameterBusy] ∧
    ((write 0x0102 1201 [320] (write 0x0102 1200 [5023] plant)).events.map (·.reason)) =
      [some .offGrid, some .tagInUse] := by decide +kernel

/-! ### Transactions, learning, links -/

def sentPlant : State := next (.transmissionComplete (ms 40) .L) (write 0x0102 1200 [5000] plant)

def reply (tag : Nat) (status : Octet) : List Octet := fromFiller (content tag 0x86 status 0 0 0 [])

theorem test_sent_deadline : sentPlant.txns.map (·.state) = [.sent (ms 240)] ∧ sentPlant.portL.ordinary = [] ∧
    sentPlant.portL.egress.framesSent = 1 := by decide +kernel

theorem test_success_reply : let s := next (.frameArrival (ms 50) .L true (reply 0x0102 0)) sentPlant
    s.txns = [] ∧ s.image[0] = .known 5000 ∧ s.portP.ordinary.length = 1 := by decide +kernel

theorem test_timeout : let s := next (.transactionDeadline (ms 240) 2 0x0102) sentPlant
    s.txns = [] ∧ s.image[0] = .unknown ∧ (s.events.map fun e => (e.kind, e.effective, e.valueA)) =
      [(.replyTimeout, 4, some 0x0102)] := by decide +kernel

theorem test_link_down_discards : let s := next (.linkDown 7 .L .reportFirst) (write 0x0102 1200 [5000] plant)
    s.txns = [] ∧ s.image[0] = .known 5000 ∧ s.portL.egress.downDrops = 1 ∧ s.portL.up = false := by decide +kernel

/-- A drift to 6000, outside the run envelope, trips and quarantines (R83, R87, R32). -/
theorem test_drift_breach :
    let s := next (.frameArrival (ms 5) .L true (fromFiller (content 0 0x83 0 2 1200 1 [6000]))) plant
    (s.events.map fun e => (e.kind, e.effective)) = [(.drift, 4), (.envelopeBreach, 7), (.quarantined, 4)] ∧
    s.image[0] = .known 6000 ∧ s.trip = true ∧ s.pulseEnd = some (ms 105) ∧ (s.station 2).state = .quarantined := by
  decide +kernel

/-! ### Window, key and events -/

def stopped (s : State) : State := { s with lineIn := ⟨.stopped, none⟩ }
def opened (s : State) : State := next (.openWindow (ask (beOctets 2 9000))) (keyAt .changeover (stopped s))

theorem test_open_window : (opened plant).window = .opened (ms 5) (ms 7200005) ∧
    ((opened plant).events.map fun e => (e.kind, e.effective, e.valueA)) = [(.windowOpened, 1, some 7200)] := by
  decide +kernel

theorem test_key_close : let s := next (.keyCodeTaken (ms 100)) { opened plant with key := ⟨.changeover, some (.run, ms 50)⟩ }
    s.window = .holdOff (ms 30100) ∧ (s.events.map (·.kind)) = [.windowOpened, .windowClosed] ∧
      s.keyPosition = .run := by decide +kernel

def event (level time : Nat) : EventRecord := makeRecord defaultSettings (ms time) { kind := .keyFault, natural := level }

/-- A higher level before a lower, and the older of two equal events first (R145, R152). -/
theorem test_take_order : (takeHighest [event 3 1, event 6 2, event 6 3]).map (fun x => x.1.time) = some 2 ∧
    (takeLowest [event 3 1, event 3 2, event 6 3]).map (fun x => x.1.time) = some 2 := by decide +kernel

theorem test_save_and_restart :
    let s := next (.saveEnd 9 true) (next (.saveSettings (ask [])) plant)
    s.save = .idle ∧ s.store.valid = true ∧ s.store.contents.managementType = 0x88B6#16 ∧
    (next (.transmissionComplete (ms 9) .P) (next (.restart (ask [])) plant)).phase = .loadingWarm := by decide +kernel

/-- A cold start from an invalid store ends with STORE-INVALID at level 7, TRIP and ALARM active (R175). -/
theorem test_store_invalid :
    let s := next (.settingsLoadComplete (ms 20)) (next .coldStart (next .resetAsserted
      { plant with store := { plant.store with mark := false } }))
    s.phase = .running ∧ (s.events.map fun e => (e.kind, e.effective)) = [(.storeInvalid, 7)] ∧ s.trip = true ∧
    s.alarm = true ∧ s.pulseEnd = some (ms 120) := by decide +kernel

/-- One express frame, then N, then the ordinary one (R136). -/
theorem test_arbiter : let f := fun n : Octet => forwardedFrame [n] none
    let p := (((freshPort true).handOver 1 1 .express (f 1)).handOver 2 1 .express (f 2)).handOver 3 1 .ordinary (f 3)
    let p2 := (p.complete.map fun x => x.2.select 1).getD p
    let p3 := (p2.complete.map fun x => x.2.select 1).getD p2
    p.express.map (·.inTransmission) = [true, false] ∧ p2.runCount = 1 ∧
    p3.ordinary.map (·.inTransmission) = [true] ∧ p3.runCount = 0 := by decide +kernel

/-! What meets at one moment (R93, R142, R167, R170), and RESET (R175) -/

/-- Port L lost at 50 ms, its discard taken first: the write is ended, and the read reply that arrived whole at that moment
still teaches the image its value (R93 row 2, R83). -/
theorem test_reply_with_loss : let f := fromFiller (content 0 0x83 0 2 1200 1 [5005])
    let held := write 0x0102 1200 [5000] plant
    let s := next (.frameArrival (ms 50) .L true f) (next (.linkDown (ms 50) .L .discardsFirst) held)
    let later := next (.frameArrival (ms 51) .L true f) (next (.linkDown (ms 50) .L .discardsFirst) held)
    s.image[0] = .known 5005 ∧ s.txns = [] ∧ later.image[0] = .known 5000 := by decide +kernel

/-- A request on port P at the moment its link is lost takes effect, and its reply is dropped and counted (R170 row 5). -/
theorem test_request_with_loss : let s := next (.markStagedReady (ask [])) (next (.linkDown (ms 5) .P .reportFirst) plant)
    s.settings.stagedReady = true ∧ s.portP.egress.lostPartFrames = 1 ∧
    (next (.restart (ask [])) (next (.linkDown (ms 5) .P .reportFirst) plant)).phase = .loadingWarm := by decide +kernel

/-- An express frame alone, then an ordinary one at the same moment: the run count is 1; later, it is not (R142 row 4). -/
theorem test_run_count_at_one_moment : let f := fun n : Octet => forwardedFrame [n] none
    let alone := (freshPort true).handOver 7 4 .express (f 1)
    alone.runCount = 0 ∧ (alone.handOver 7 4 .ordinary (f 2)).runCount = 1 ∧
    (alone.handOver 8 4 .ordinary (f 2)).runCount = 0 := by decide

theorem test_reset_abandons : let s := next .resetAsserted (write 0x0102 1200 [5000] plant)
    s.portL.ordinary = [] ∧ s.portL.transmitterFree = true ∧ s.txns = [] ∧ s.image[0] = .unknown := by decide +kernel

theorem test_decode_none : decodeTableWord 0 0 = none := by decide

/-! ### Witnesses: for each statement with hypotheses, a state and operands that meet them -/

/-- `Served` as a check. -/
def servedCheck (k : RequestKind) (q : Request) (s : State) : Bool :=
  decide (s.phase = .running) && (s.port q.port).heardAt q.time && decide (s.now ≤ q.time) && !isGroup q.requester &&
  !s.restartPending && decide (q.argLength.toNat = k.argLength) && decide (k.argLength ≤ q.octets.length) &&
  (!k.privilege.needsManager || isManager s.settings.managers q.requester) &&
  decide (k.privilege.keyRefusal s.keyPosition s.settings.lock = none) && (!k.busyInSave || !s.saving)

theorem served_of (k : RequestKind) (q : Request) (s : State) (h : servedCheck k q s = true) : Served k q s := by
  simp only [servedCheck, Bool.and_eq_true, decide_eq_true_eq, Bool.not_eq_true', Bool.or_eq_true] at h
  obtain ⟨⟨⟨⟨⟨⟨⟨⟨⟨a, b⟩, c⟩, d⟩, e⟩, f⟩, g⟩, i⟩, j⟩, k'⟩ := h
  refine ⟨⟨⟨a, by simpa [PortState.heardAt] using b, c⟩, d⟩, e, ⟨f, g⟩, ?_, j, ?_⟩
  · intro hn; rcases i with i | i
    · rw [hn] at i; cases i
    · exact i
  · intro hb; rcases k' with k' | k'
    · rw [hb] at k'; cases k'
    · exact k'

theorem hears_ask (args : List Octet) (s : State) (hp : s.phase = .running) (hu : s.portP.up = true) (ht : s.now ≤ ms 5) :
    s.hears (ask args) := ⟨⟨hp, .inl hu, ht⟩, (by decide : isGroup eng = false)⟩

/-! The step and the responder -/

theorem test_witness_StepTakesFrontCommand : State.reset.pending = [] := rfl

theorem test_witness_ManagementFrameIsItsRequest : (ask []).wellFormed = true ∧
    plant.settings.managementType ≠ 0x8100#16 ∧ plant.settings.managementType ≠ 0x8808#16 := by decide

def restarting : State := { plant with restartPending := true }
def managed : State :=
  { plant with settings := { plantSettings with managers := Vector.replicate 4 (some filler), lock := .locked } }
def saving : State := { plant with save := .saving plantSettings, store := ⟨false, true, plantSettings⟩ }

theorem test_witness_RequestChecksInOrder :
    (restarting.hears (ask []) ∧ restarting.restartPending = true) ∧
    (plant.hears (ask [1]) ∧ plant.restartPending = false ∧ ¬ lengthSuits .readStatus (ask [1])) ∧
    (managed.hears (ask [2]) ∧ managed.restartPending = false ∧ lengthSuits .clearCounters (ask [2]) ∧
      ¬ managerSuits .clearCounters (ask [2]) managed) ∧
    (plant.hears (ask []) ∧ lengthSuits .unlockTables (ask []) ∧ managerSuits .unlockTables (ask []) plant ∧
      RequestKind.unlockTables.privilege.keyRefusal plant.keyPosition plant.settings.lock = some .keyPosition) ∧
    (isManager managed.settings.managers filler = true ∧ isManager plant.settings.managers eng = true) ∧
    (saving.hears (ask []) ∧ saving.restartPending = false ∧ lengthSuits .saveSettings (ask []) ∧
      managerSuits .saveSettings (ask []) saving ∧
      RequestKind.saveSettings.privilege.keyRefusal saving.keyPosition saving.settings.lock = none ∧
      RequestKind.saveSettings.busyInSave = true ∧ saving.saving = true) := by
  refine ⟨⟨hears_ask _ _ rfl rfl (by decide), rfl⟩, ⟨hears_ask _ _ rfl rfl (by decide), rfl, ?_⟩,
    ⟨hears_ask _ _ rfl rfl (by decide), rfl, ⟨by decide, by decide⟩, ?_⟩,
    ⟨hears_ask _ _ rfl rfl (by decide), ⟨by decide, by decide⟩, fun _ => by decide, by decide⟩, by decide,
    hears_ask _ _ rfl rfl (by decide), rfl, ⟨by decide, by decide⟩, fun _ => by decide, by decide, rfl, rfl⟩
  · exact fun h => absurd h.1 (by decide)
  · exact fun h => absurd (h rfl) (by decide)

theorem test_witness_RefusedRequestChangesNothing : Served .readStation (ask [32]) plant ∧
    (ownRule .readStation (ask [32]) { plant with now := (ask [32]).time }).code ≠ .ok :=
  ⟨served_of _ _ _ (by decide +kernel), by decide +kernel⟩

def grouped : Request := { ask [] with requester := 0x01005E000001#48 }
def lineDown : State := { plant with portL := { plant.portL with phyUp := false, up := false } }
def plantDown : State := { plant with portP := { plant.portP with phyUp := false, up := false, lostAt := some 0 } }
/-- Port P lost its link at 5 ms, the moment at which `ask` reaches it. -/
def plantLost : State := { plant with now := ms 5, portP := { plant.portP with phyUp := false, up := false, lostAt := some (ms 5) } }
def loading : State := { plant with phase := .loadingWarm }

theorem test_witness_UnheardAndUnknownRequests :
    (plant.ready grouped.port grouped.time ∧ isGroup grouped.requester = true) ∧
    (plantDown.phase = .running ∧ plantDown.now ≤ (ask []).time ∧ (plantDown.port (ask []).port).up = false ∧
      (plantDown.port (ask []).port).lostAt ≠ some (ask []).time) ∧
    (loading.phase.loading = true ∧ loading.now ≤ (ask []).time) ∧ { plant with phase := .resetHeld }.phase.alive = false ∧
    (plant.hears (ask []) ∧ inDirectory 1 0x24 = false ∧ inDirectory 1 0 = false ∧ inDirectory 0 1 = false ∧
      inDirectory 1 0x81 = false) ∧ restarting.hears (ask []) :=
  ⟨⟨⟨rfl, .inl rfl, by decide⟩, by decide⟩, by decide, by decide, rfl, ⟨hears_ask _ _ rfl rfl (by decide), by decide⟩,
    hears_ask _ _ rfl rfl (by decide)⟩

theorem test_witness_ReplyFrameIsWellFormed : (List.replicate 1500 (0 : Octet)).length ≤ 1500 ∧ 0x88B6#16 ≠ 0x8100#16 ∧
    (List.replicate 65535 (0 : Octet)).length < 65536 := ⟨by decide +kernel, by decide, by rw [List.length_replicate]; omega⟩

/-- The content of a reply with a result of 300 octets, its length most significant octet first. -/
theorem test_reply_content : (replyContent 0x82#8 7 0 (List.replicate 300 9)).take 7 = [1, 0x82, 7, 0, 1, 0x2C, 9] := by
  decide +kernel

theorem test_witness_ReadingRequestsAnswer :
    Served .readIdentity (ask []) plant ∧ Served .readStatus (ask []) plant ∧
    (Served .readProfile (ask [3]) plant ∧ argsOf (ask [3]) = [BitVec.ofNat 8 (3 : Fin 4).val]) ∧
    (Served .readStation (ask [31]) plant ∧ argsOf (ask [31]) = [BitVec.ofNat 8 (31 : Fin 32).val]) ∧
    (Served .readStation (ask [32]) plant ∧ 31 < (octetAt (argsOf (ask [32])) 0).toNat) ∧
    (Served .readParameter (ask [2, 2, 0]) plant ∧ 511 < beNat (slice (argsOf (ask [2, 2, 0])) 1 2)) ∧
    (Served .readParameter (ask [3, 0, 0]) plant ∧ BankId.ofCode (octetAt (argsOf (ask [3, 0, 0])) 0) = none) ∧
    (Served .readCounters (ask [31]) plant ∧ argsOf (ask [31]) = [BitVec.ofNat 8 (31 : Fin 32).val]) ∧
    (Served .readImage (ask [1, 0xE1, 32]) plant ∧
      512 < beNat ((argsOf (ask [1, 0xE1, 32])).take 2) + (octetAt (argsOf (ask [1, 0xE1, 32])) 2).toNat) ∧
    (Served .readImage (ask [0, 0, 33]) plant ∧ 32 < (octetAt (argsOf (ask [0, 0, 33])) 2).toNat) ∧
    (Served .readParameter (ask [2, 1, 255]) plant ∧
      argsOf (ask [2, 1, 255]) = [BankId.B.code] ++ beOctets 2 (511 : Fin 512).val) ∧
    (Served .readImage (ask [1, 0xE0, 32]) plant ∧ 480 + 32 ≤ 512 ∧
      argsOf (ask [1, 0xE0, 32]) = beOctets 2 480 ++ [BitVec.ofNat 8 32]) :=
  ⟨served_of _ _ _ (by decide +kernel), served_of _ _ _ (by decide +kernel),
    ⟨served_of _ _ _ (by decide +kernel), by decide⟩, ⟨served_of _ _ _ (by decide +kernel), by decide⟩,
    ⟨served_of _ _ _ (by decide +kernel), by decide⟩, ⟨served_of _ _ _ (by decide +kernel), by decide⟩,
    ⟨served_of _ _ _ (by decide +kernel), by decide⟩,
    ⟨served_of _ _ _ (by decide +kernel), by decide⟩, ⟨served_of _ _ _ (by decide +kernel), by decide⟩,
    ⟨served_of _ _ _ (by decide +kernel), by decide⟩, ⟨served_of _ _ _ (by decide +kernel), by decide +kernel⟩,
    served_of _ _ _ (by decide +kernel), by decide, by decide +kernel⟩

theorem fill_sound : RecordSound fill :=
  ⟨by decide, by decide, by decide, ⟨⟨390, by decide⟩, ⟨410, by decide⟩, 1500, by decide⟩, by decide, by decide⟩

theorem snift_sound : RecordSound snift :=
  ⟨by decide, by decide, by decide, ⟨⟨18, by decide⟩, ⟨24, by decide⟩, 50, by decide⟩, by decide, by decide⟩

theorem test_witness_RecordsRoundTrip : (RecordSound fill ∧ fill.quantum ≤ 65535) ∧
    (fillerEntry.config.mode = .address → fillerEntry.config.embedded = 0) ∧
    (prof.byteOrder ≠ none ∧ prof.functionMap.length ≤ 16) ∧ readParamRecord (paramOctets fill) = some fill ∧
    readStationConfig (stationConfigOctets fillerEntry.config) = some fillerEntry.config ∧
    readProfileRecord (profileOctets prof) = some prof :=
  ⟨⟨fill_sound, by decide⟩, by decide, by decide, by decide +kernel⟩

/-! Profiles and stations -/

def otherProf : Profile := { prof with frameType := 0x88D3#16 }
def shortProf : Profile := { otherProf with minLength := 63 }
def loadProf (n : Octet) (o : List Octet) : Request := ask (n :: o)
def held : State := write 0x0102 1200 [5000] plant

theorem prof_sound : ProfileSound prof :=
  ⟨by decide, by decide, by decide, ⟨fun _ h => (nomatch h), fun w h => (by cases h; decide), fun t h => (by cases h; decide)⟩,
    by decide, .inl rfl, by decide, by decide, fun _ h => nomatch h⟩

theorem otherProf_sound : ProfileSound otherProf := { prof_sound with frameType := by decide }

/-- Profile 3 is loaded with a sound record, with octets of no listed code, with a record that breaks a limit, and with the
frame type of profile 0; profile 0 is busy while the filler's write is in flight. -/
theorem test_witness_LoadProfileReplaces :
    (∀ o ∈ [profileOctets otherProf, (profileOctets otherProf).set 35 17, profileOctets shortProf, profileOctets prof],
      octetAt (argsOf (loadProf 3 o)) 0 = BitVec.ofNat 8 (3 : Fin 4).val) ∧
    (Served .loadProfile (loadProf 3 (profileOctets otherProf)) plant ∧ plant.txns = [] ∧
      readProfileRecord ((argsOf (loadProf 3 (profileOctets otherProf))).drop 1) = some otherProf ∧ ProfileSound otherProf ∧
      ∀ i : Fin 4, i ≠ 3 → plant.settings.profiles[i].inUse = true →
        plant.settings.profiles[i].frameType ≠ otherProf.frameType) ∧
    (Served .loadProfile (loadProf 3 ((profileOctets otherProf).set 35 17)) plant ∧
      octetAt ((argsOf (loadProf 3 ((profileOctets otherProf).set 35 17))).drop 1) 35 = 17) ∧
    (Served .loadProfile (loadProf 3 (profileOctets shortProf)) plant ∧
      readProfileRecord ((argsOf (loadProf 3 (profileOctets shortProf))).drop 1) = some shortProf ∧
      shortProf.inUse = true ∧ ¬ ProfileSound shortProf) ∧
    (Served .loadProfile (loadProf 3 (profileOctets prof)) plant ∧
      readProfileRecord ((argsOf (loadProf 3 (profileOctets prof))).drop 1) = some prof ∧ ProfileSound prof ∧
      plant.settings.profiles[(0 : Fin 4)].inUse = true ∧ plant.settings.profiles[(0 : Fin 4)].frameType = prof.frameType ∧
      plant.settings.profiles[(0 : Fin 4)].discriminator = prof.discriminator) ∧
    (Served .loadProfile (loadProf 0 (profileOctets prof)) held ∧
      octetAt (argsOf (loadProf 0 (profileOctets prof))) 0 = BitVec.ofNat 8 (0 : Fin 4).val ∧
      ∃ t ∈ held.txns, (held.station t.ref.station).inUse = true ∧ (held.station t.ref.station).config.profile = 0) := by
  refine ⟨by decide +kernel, ⟨served_of _ _ _ (by decide +kernel), rfl, by decide +kernel, otherProf_sound, by decide +kernel⟩,
    ⟨served_of _ _ _ (by decide +kernel), by decide +kernel⟩,
    ⟨served_of _ _ _ (by decide +kernel), by decide +kernel, rfl, fun h => absurd h.lengths.1 (by decide)⟩,
    ⟨served_of _ _ _ (by decide +kernel), by decide +kernel, prof_sound, by decide +kernel⟩,
    served_of _ _ _ (by decide +kernel), by decide +kernel, by decide +kernel⟩

def newConfig : StationConfig := ⟨.embedded, gate, 8, 0, false, false, true⟩
def loadStationOf (n : Octet) (c : StationConfig) : Request := ask (n :: stationConfigOctets c)

def withState (v : StationState) (k : KeyCode) : State :=
  keyAt k (withStation { fillerEntry with state := v } plant)

theorem test_witness_StationTableRequestsWrite :
    (Served .loadStation (loadStationOf 30 newConfig) plant ∧
      octetAt (argsOf (loadStationOf 30 newConfig)) 0 = BitVec.ofNat 8 (30 : Fin 32).val ∧
      readStationConfig ((argsOf (loadStationOf 30 newConfig)).drop 1) = some newConfig ∧
      (¬ ∃ t ∈ plant.txns, t.ref.station = 30) ∧ isGroup newConfig.address = false ∧
      newConfig.address ≠ plant.identity.address ∧ ∀ i : Fin 32, i ≠ 30 → (plant.station i).inUse = true →
        (plant.station i).config.address = newConfig.address → (plant.station i).config.embedded ≠ newConfig.embedded) ∧
    (Served .loadStation (loadStationOf 30 gateEntry.config) plant ∧
      readStationConfig ((argsOf (loadStationOf 30 gateEntry.config)).drop 1) = some gateEntry.config ∧
      (plant.station 31).inUse = true ∧ (plant.station 31).config = gateEntry.config) ∧
    (Served .loadStation (loadStationOf 30 { newConfig with address := own }) plant ∧
      macAt ((argsOf (loadStationOf 30 { newConfig with address := own })).drop 1) 1 = plant.identity.address) ∧
    (Served .loadStation (loadStationOf 2 newConfig) held ∧ Served .clearStation (ask [2]) held ∧
      ∃ t ∈ held.txns, t.ref.station = 2) ∧
    (Served .clearStation (ask [31]) plant ∧ (plant.station 31).state ≠ .quarantined) ∧
    (Served .clearStation (ask [2]) (withState .quarantined .run) ∧ (withState .quarantined .run).txns = [] ∧
      ((withState .quarantined .run).station 2).state = .quarantined) := by
  refine ⟨⟨served_of _ _ _ (by decide +kernel), by decide +kernel⟩, ⟨served_of _ _ _ (by decide +kernel), by decide +kernel⟩,
    ⟨served_of _ _ _ (by decide +kernel), by decide +kernel⟩, ⟨served_of _ _ _ (by decide +kernel),
      served_of _ _ _ (by decide +kernel), by decide +kernel⟩, ⟨served_of _ _ _ (by decide +kernel), by decide +kernel⟩,
    served_of _ _ _ (by decide +kernel), by decide +kernel⟩

theorem test_witness_StationTableRequestsWrite_policies :
    (Served .loadAreaPolicy (ask [31, 15, 2, 2]) plant ∧ (plant.station 31).inUse = true ∧
      octetAt (argsOf (ask [31, 15, 2, 2])) 1 = BitVec.ofNat 8 (15 : Fin 16).val ∧
      octetAt (argsOf (ask [31, 15, 2, 2])) 2 = UnlistedVerdict.window.code ∧
      octetAt (argsOf (ask [31, 15, 2, 2])) 3 = ReadVerdict.refuse.code) ∧
    (Served .loadAreaPolicy (ask [31, 16, 2, 2]) plant ∧ 15 < (octetAt (argsOf (ask [31, 16, 2, 2])) 1).toNat) ∧
    (Served .loadAreaPolicy (ask [30, 15, 4, 3]) plant ∧ (plant.station 30).inUse = false) ∧
    (Served .loadAreaPolicy (ask [31, 15, 4, 1]) plant ∧
      ∀ u : UnlistedVerdict, octetAt (argsOf (ask [31, 15, 4, 1])) 2 ≠ u.code) ∧
    (Served .loadAreaPolicy (ask [31, 15, 3, 3]) plant ∧
      ∀ r : ReadVerdict, octetAt (argsOf (ask [31, 15, 3, 3])) 3 ≠ r.code) ∧
    (Served .clearCounters (ask [31]) plant ∧ octetAt (argsOf (ask [31])) 0 = BitVec.ofNat 8 (31 : Fin 32).val) :=
  ⟨⟨served_of _ _ _ (by decide +kernel), by decide +kernel⟩, ⟨served_of _ _ _ (by decide +kernel), by decide⟩,
    ⟨served_of _ _ _ (by decide +kernel), by decide +kernel⟩,
    ⟨served_of _ _ _ (by decide +kernel), fun u => by cases u <;> decide⟩,
    ⟨served_of _ _ _ (by decide +kernel), fun r => by cases r <;> decide⟩, served_of _ _ _ (by decide +kernel), by decide⟩

theorem test_witness_StationStateRequestsAct :
    argsOf (ask [2]) = [BitVec.ofNat 8 (2 : Fin 32).val] ∧ argsOf (ask [30]) = [BitVec.ofNat 8 (30 : Fin 32).val] ∧
    (Served .grantService (ask [2]) (withState .normal .service) ∧ (withState .normal .service).keyPosition = .service) ∧
    (Served .grantService (ask [2]) plant ∧ Served .releaseStation (ask [2]) plant ∧ plant.keyPosition ≠ .service) ∧
    (Served .grantService (ask [30]) (withState .normal .service) ∧
      ((withState .normal .service).station 30).inUse = false ∧ Served .releaseStation (ask [2]) (withState .normal .service)) ∧
    (Served .endService (ask [2]) (withState .service .service) ∧
      ((withState .service .service).station 2).state = .service) ∧
    (Served .endService (ask [2]) plant ∧ Served .quarantineStation (ask [30]) plant ∧ (plant.station 30).inUse = false) ∧
    (Served .quarantineStation (ask [2]) plant ∧ (plant.station 2).state = .normal ∧ (plant.station 2).inUse = true) ∧
    Served .quarantineStation (ask [2]) (withState .quarantined .run) ∧
    (Served .releaseStation (ask [2]) (withState .quarantined .service) ∧
      Served .grantService (ask [2]) (withState .quarantined .service) ∧
      ((withState .quarantined .service).station 2).state = .quarantined ∧
      ((withState .quarantined .service).station 2).inUse = true) :=
  ⟨by decide, by decide, ⟨served_of _ _ _ (by decide +kernel), by decide⟩,
    ⟨served_of _ _ _ (by decide +kernel), served_of _ _ _ (by decide +kernel), by decide⟩,
    ⟨served_of _ _ _ (by decide +kernel), by decide +kernel, served_of _ _ _ (by decide +kernel)⟩,
    ⟨served_of _ _ _ (by decide +kernel), by decide +kernel⟩,
    ⟨served_of _ _ _ (by decide +kernel), served_of _ _ _ (by decide +kernel), by decide +kernel⟩,
    ⟨served_of _ _ _ (by decide +kernel), by decide +kernel⟩, served_of _ _ _ (by decide +kernel),
    served_of _ _ _ (by decide +kernel), served_of _ _ _ (by decide +kernel), by decide +kernel⟩

theorem plant_distinct : stationsDistinct plantSettings := by unfold stationsDistinct; decide +kernel

theorem test_witness_IdentificationFindsTheOneStation : stationsDistinct plantSettings ∧
    isGroup 0x01005E000001#48 = true ∧ isGroup filler = false ∧ identify plantSettings 0 filler [] = some 2 ∧
    identify plantSettings 0 gate [0, 0, 7] = some 31 ∧ identify plantSettings 0 gate [0, 0] = none :=
  ⟨plant_distinct, by decide +kernel⟩

theorem test_witness_FirstMatchingProfileWins : matchProfile plantSettings 0x88D2#16 [] = some 0 ∧
    matchProfile plantSettings 0x0800#16 [] = none := by decide +kernel

/-! Banks -/

def third : ParamRecord := { fill with key := ⟨2, 2, 1202⟩ }
def loadThird : Request := ask (beOctets 2 511 ++ paramOctets third)

theorem test_witness_StagedClassRequestsAct :
    (Served .loadParameter loadThird plant ∧ beNat ((argsOf loadThird).take 2) = (511 : Fin 512).val ∧
      readParamRecord ((argsOf loadThird).drop 2) = some third ∧ RecordSound third ∧
      ∀ (j : Fin 512) (r' : ParamRecord), j ≠ 511 → plant.settings.stagedBank[j] = some r' → r'.key ≠ third.key) ∧
    (Served .clearParameter (ask [1, 255]) plant ∧ argsOf (ask [1, 255]) = beOctets 2 (511 : Fin 512).val) ∧
    (Served .clearParameter (ask [2, 0]) plant ∧ 511 < beNat ((argsOf (ask [2, 0])).take 2)) ∧
    Served .forgetImage (ask [2, 0]) plant ∧
    Served .copyActiveToStaged (ask []) plant ∧ Served .markStagedReady (ask []) plant ∧
    (Served .forgetImage (ask [0, 0]) plant ∧ argsOf (ask [0, 0]) = beOctets 2 (0 : Fin 512).val ∧
      plant.image[(0 : Fin 512)] = .known 5000) ∧
    (Served .forgetImage (ask [0, 0]) held ∧ ∃ c v r, held.image[(0 : Fin 512)] = .pending c v r) := by
  refine ⟨⟨served_of _ _ _ (by decide +kernel), by decide +kernel, by decide +kernel, { fill_sound with }, ?_⟩,
    ⟨served_of _ _ _ (by decide +kernel), by decide +kernel⟩, ⟨served_of _ _ _ (by decide +kernel), by decide⟩,
    served_of _ _ _ (by decide +kernel), served_of _ _ _ (by decide +kernel),
    served_of _ _ _ (by decide +kernel), ⟨served_of _ _ _ (by decide +kernel), by decide +kernel⟩,
    served_of _ _ _ (by decide +kernel), some 5000, 5000, ⟨2, 0x0102⟩, by decide +kernel⟩
  intro j r' _ h
  have hb : plant.settings.stagedBank[j] = none := by
    change emptyBank[j] = none
    simp [emptyBank]
  rw [hb] at h; cases h

def badRecord : List Octet := (paramOctets fill).set 33 8
def unsound : ParamRecord := { fill with runLo := 4951 }
def loadOf (slot : Nat) (r : List Octet) : Request := ask (beOctets 2 slot ++ r)
def stagedB : State := { plant with settings := { plantSettings with active := .B } }

theorem test_witness_BadTargetsAndRecordsAreRefused :
    (Served .readProfile (ask [4]) plant ∧ 3 < (octetAt (argsOf (ask [4])) 0).toNat) ∧
    (Served .readStation (ask [32]) plant ∧ 31 < (octetAt (argsOf (ask [32])) 0).toNat) ∧
    (Served .clearParameter (ask [2, 0]) plant ∧ 511 < beNat ((argsOf (ask [2, 0])).take 2)) ∧
    (Served .loadParameter (loadOf 511 badRecord) plant ∧
      readParamRecord ((argsOf (loadOf 511 badRecord)).drop 2) = none) ∧
    (Served .loadParameter (loadOf 511 (paramOctets unsound)) plant ∧
      readParamRecord ((argsOf (loadOf 511 (paramOctets unsound))).drop 2) = some unsound ∧ ¬ RecordSound unsound) ∧
    (Served .loadParameter (loadOf 511 (paramOctets fill)) stagedB ∧
      beNat ((argsOf (loadOf 511 (paramOctets fill))).take 2) = (511 : Fin 512).val ∧
      readParamRecord ((argsOf (loadOf 511 (paramOctets fill))).drop 2) = some fill ∧ RecordSound fill ∧
      stagedB.settings.stagedBank[(0 : Fin 512)] = some fill) := by
  refine ⟨⟨served_of _ _ _ (by decide +kernel), by decide⟩, ⟨served_of _ _ _ (by decide +kernel), by decide⟩,
    ⟨served_of _ _ _ (by decide +kernel), by decide +kernel⟩, ⟨served_of _ _ _ (by decide +kernel), by decide +kernel⟩,
    ⟨served_of _ _ _ (by decide +kernel), by decide +kernel, ?_⟩, served_of _ _ _ (by decide +kernel),
    by decide +kernel, by decide +kernel, fill_sound, by decide +kernel⟩
  intro h
  obtain ⟨k, hk⟩ := h.grid.1
  change (4951 : Int) = 3000 + k * 5 at hk
  omega

def swappable : State := { plant with settings := { plantSettings with stagedReady := true } }

theorem test_witness_ActivateStagedSwaps :
    (Served .activateStaged (ask []) swappable ∧ swappable.txns = [] ∧ swappable.window = .shut ∧
      swappable.settings.stagedReady = true) ∧
    (Served .activateStaged (ask []) held ∧ held.txns ≠ []) ∧
    (Served .activateStaged (ask []) plant ∧ plant.txns = [] ∧ plant.settings.stagedReady = false) ∧
    (let s := { plant with settings := { plantSettings with bankB := emptyBank.set 0 (some fill) } };
      s.swap.image[(0 : Fin 512)] = .known 5000 ∧ s.swap.image[(2 : Fin 512)] = .unknown) :=
  ⟨⟨served_of _ _ _ (by decide +kernel), rfl, rfl, rfl⟩, ⟨served_of _ _ _ (by decide +kernel), by decide +kernel⟩,
    ⟨served_of _ _ _ (by decide +kernel), rfl, rfl⟩, by decide +kernel⟩

/-! Window and line inputs -/

def atChangeover : State := keyAt .changeover (stopped plant)
def windowOpen : State := { atChangeover with window := .opened 0 7200000 }

theorem test_witness_WindowRequestsAct :
    (Served .openWindow (ask [255, 255]) atChangeover ∧ argsOf (ask [255, 255]) = beOctets 2 65535 ∧
      atChangeover.keyPosition = .changeover ∧ atChangeover.window = .shut ∧ atChangeover.lineIn.taken = .stopped ∧
      (atChangeover.settings.stagedReady = true → atChangeover.txns = [] ∧ atChangeover.saving = false)) ∧
    (Served .extendWindow (ask [0, 1]) windowOpen ∧ argsOf (ask [0, 1]) = beOctets 2 1 ∧
      windowOpen.window = .opened 0 7200000) ∧
    Served .closeWindow (ask []) windowOpen :=
  ⟨⟨served_of _ _ _ (by decide +kernel), by decide +kernel⟩, ⟨served_of _ _ _ (by decide +kernel), by decide +kernel⟩,
    served_of _ _ _ (by decide +kernel)⟩

def readyHeld : State := { (keyAt .changeover (stopped held)) with settings := { plantSettings with stagedReady := true } }

theorem test_witness_WindowRequestsRefused :
    (Served .openWindow (ask [0, 1]) plant ∧ plant.keyPosition ≠ .changeover) ∧
    (Served .openWindow (ask [0, 1]) windowOpen ∧ windowOpen.keyPosition = .changeover ∧ windowOpen.window ≠ .shut) ∧
    (Served .openWindow (ask [0, 1]) (keyAt .changeover plant) ∧ (keyAt .changeover plant).lineIn.taken ≠ .stopped) ∧
    (Served .openWindow (ask [0, 1]) readyHeld ∧ readyHeld.window = .shut ∧ readyHeld.lineIn.taken = .stopped ∧
      readyHeld.settings.stagedReady = true ∧ readyHeld.txns ≠ []) ∧
    (Served .openWindow (ask [0, 0]) atChangeover ∧ atChangeover.settings.stagedReady = false ∧
      beNat ((argsOf (ask [0, 0])).take 2) = 0) ∧
    (Served .extendWindow (ask [0, 1]) plant ∧ plant.window.isOpen = false) ∧
    (Served .extendWindow (ask [0, 0]) windowOpen ∧ windowOpen.window.isOpen = true) ∧ Served .closeWindow (ask []) plant :=
  ⟨⟨served_of _ _ _ (by decide +kernel), by decide⟩, ⟨served_of _ _ _ (by decide +kernel), by decide⟩,
    ⟨served_of _ _ _ (by decide +kernel), by decide⟩, ⟨served_of _ _ _ (by decide +kernel), by decide +kernel⟩,
    ⟨served_of _ _ _ (by decide +kernel), by decide⟩, ⟨served_of _ _ _ (by decide +kernel), by decide⟩,
    ⟨served_of _ _ _ (by decide +kernel), by decide⟩, served_of _ _ _ (by decide +kernel)⟩

def tripping : State := { plant with trip := true, pulseEnd := some 100, window := .holdOff 100 }
def trippingLoad : State := { loading with trip := true, pulseEnd := some 100 }

theorem test_witness_DeadlinesAct : windowOpen.phase = .running ∧ windowOpen.now ≤ 7200000 ∧
    (windowOpen.window = .opened 0 7200000 ∧ 7200000 ≤ 7200000 ∧ 7199999 < 7200000) ∧
    (tripping.window = .holdOff 100 ∧ tripping.pulseEnd = some 100 ∧ 100 ≤ 100 ∧ 99 < 100) ∧
    (trippingLoad.phase = .loadingWarm ∧ trippingLoad.now ≤ 99 ∧ trippingLoad.pulseEnd = some 100) := by decide

/-- The pulse of a warm start ends during its settings load (R149). -/
theorem test_pulse_ends_in_load : (next (.tripPulseEnd 99) trippingLoad).trip = true ∧
    (next (.tripPulseEnd 100) trippingLoad).trip = false ∧ (next (.tripPulseEnd 100) trippingLoad).pulseEnd = none := by
  decide +kernel

theorem test_witness_WindowCloseAndDraining :
    (windowOpen.window = .opened 0 7200000 ∧ (windowOpen.txns.filter fun t => decide (t.mode = .change)).length = 0) ∧
    (let s := write 0x0102 1200 [5000] windowOpen; s.window = .opened 0 7200000 ∧ (s.txns.filter fun t => decide (t.mode = .change)).length ≠ 0) ∧
    plant.window.isOpen = false ∧ plant.settings.triggers.has .drift = false ∧
    plant.settings.triggers.has .lineStart = true := by decide +kernel

theorem test_witness_ChangeoverCheckCounts :
    ({ plant with window := .draining }.window = .draining ∧ ∀ t ∈ plant.txns, t.mode = .run) ∧
    (let s := { write 0x0102 1200 [5000] windowOpen with window := .draining };
      s.window = .draining ∧ ∃ t ∈ s.txns, t.mode = .change) ∧ plant.window ≠ .draining ∧
    { plant with window := .holdOff 9 }.window ≠ .draining ∧ windowOpen.window ≠ .draining := by decide +kernel

theorem test_witness_InputChangesSetCandidates : plant.phase = .running ∧ plant.now ≤ 0 ∧
    { plant with phase := .resetHeld }.phase = .resetHeld := by decide

theorem test_witness_StableInputsAreTaken :
    (let s := { withState .service .service with key := ⟨.service, some (.fault, ms 50)⟩ };
      s.phase = .running ∧ s.now ≤ ms 100 ∧ s.key.candidate = some (.fault, ms 50) ∧ ms 50 + ms 50 ≤ ms 100 ∧
      ms 99 < ms 50 + ms 50 ∧ s.keyPosition = .service ∧ s.key.taken ≠ .fault) ∧
    (let s := { windowOpen with key := ⟨.changeover, some (.run, ms 50)⟩, lineIn := ⟨.stopped, some (.running, ms 50)⟩ };
      s.keyPosition = .changeover ∧ s.lineIn.candidate = some (.running, ms 50) ∧ s.lineIn.taken = .stopped) := by
  decide +kernel

/-! Write vetting -/

/-- A tie between 300 and 310 with the reference nearer the upper, absent, and equally near; 5025 is on its grid. -/
theorem test_witness_QuantiseGoesToNearestGridPoint : 1 ≤ snift.quantum ∧ onGrid snift 300 ∧ (300 : Int) ≤ 305 ∧
    (305 : Int) < 300 + snift.quantum ∧ quantise snift (some 310) 305 = 310 ∧ quantise snift none 305 = 300 ∧
    quantise snift (some 305) 305 = 300 ∧ onGrid fill 5025 ∧ quantise fill none 5025 = 5025 :=
  ⟨by decide, ⟨20, by decide⟩, by decide, by decide, by decide +kernel, by decide +kernel, by decide +kernel,
    ⟨405, by decide⟩, by decide +kernel⟩

/-- From 5060 the one grid point in reach is 5050; from 5061 there is none. -/
theorem test_witness_StepLimitReachesGridPoints : RecordSound fill ∧ onGrid fill 5025 ∧ fill.stepLimits = true ∧
    (onGrid fill 5070 ∧ 5070 ≤ 5060 + (fill.stepUp : Int) ∧ 5060 + (fill.stepUp : Int) < 5070 + fill.quantum ∧
      onGrid fill 5050 ∧ 5060 - (fill.stepDown : Int) ≤ 5050 ∧ 5050 - (fill.quantum : Int) < 5060 - fill.stepDown ∧
      max fill.runLo 5050 ≤ min fill.runHi 5070 ∧ stepLimit fill .run (some 5060) 5025 = .ok 5050) ∧
    (onGrid fill 5055 ∧ 5061 - (fill.stepDown : Int) ≤ 5055 ∧ 5055 - (fill.quantum : Int) < 5061 - fill.stepDown ∧
      min fill.runHi 5070 < max fill.runLo 5055 ∧ stepLimit fill .run (some 5061) 5025 = .error .outOfReach) ∧
    stepLimit fill .run none 5025 = .error .noReference :=
  ⟨fill_sound, ⟨405, by decide⟩, rfl, ⟨⟨414, by decide⟩, by decide, by decide, ⟨410, by decide⟩, by decide, by decide,
    by decide, by decide +kernel⟩, ⟨⟨411, by decide⟩, by decide, by decide, by decide, by decide +kernel⟩,
    by decide +kernel⟩

theorem test_witness_VettedValueInEnvelopeOnGrid : RecordSound fill ∧ RecordSound snift ∧
    vetValue fill .run (some 5000) true 5010 = .unaltered 5010 ∧
    vetValue fill .change none true 5023 = .clamped 5025 .offGrid ∧
    vetValue fill .run (some 5000) true 5025 = .clamped 5010 .stepExceeded ∧
    vetValue fill .run (some 5000) false 5023 = .refused .rewriteForbidden (some .offGrid) (some 5010) ∧
    vetValue snift .run (some 330) true 341 = .refused .outsideEnvelope none (some 340) ∧
    stepLimit fill .run none (quantise fill none 5000) = .error .noReference ∧
    (onGrid fill 5010 ∧ fill.runLo ≤ 5010 ∧ 5010 ≤ fill.runHi ∧ 5000 - (fill.stepDown : Int) ≤ 5010 ∧
      5010 ≤ 5000 + (fill.stepUp : Int)) :=
  ⟨fill_sound, snift_sound, by decide +kernel, by decide +kernel, by decide +kernel, by decide +kernel, by decide +kernel,
    by decide +kernel, ⟨402, by decide⟩, by decide⟩

theorem plant_bank_sound : BankSound plant.settings.activeBank := by
  have get : ∀ (i : Fin 512) (r : ParamRecord), plantSettings.bankA[i] = some r →
      (i.val = 0 ∧ r = fill) ∨ (i.val = 2 ∧ r = snift) := by
    intro i r h
    change ((emptyBank.set 0 (some fill)).set 2 (some snift))[i.val] = some r at h
    rw [Vector.getElem_set, Vector.getElem_set] at h
    split at h
    · next h2 => exact .inr ⟨h2.symm, (Option.some.inj h).symm⟩
    · split at h
      · next h0 => exact .inl ⟨h0.symm, (Option.some.inj h).symm⟩
      · simp [emptyBank] at h
  constructor
  · intro i r h
    rcases get i r h with ⟨-, rfl⟩ | ⟨-, rfl⟩
    · exact fill_sound
    · exact snift_sound
  · intro i j r r' h h' hk
    rcases get i r h with ⟨hi, rfl⟩ | ⟨hi, rfl⟩ <;> rcases get j r' h' with ⟨hj, rfl⟩ | ⟨hj, rfl⟩
    · exact Fin.ext (hi.trans hj.symm)
    · exact absurd hk (by decide)
    · exact absurd hk (by decide)
    · exact Fin.ext (hi.trans hj.symm)

def offered (tag index : Nat) (values : List Nat) : WriteRequest :=
  writeRequestOf prof 2 (writeFrame tag index values)

def fullTable : State :=
  { plant with txns := (List.range 64).map fun n => ⟨⟨31, BitVec.ofNat 16 n⟩, eng, .run, [], .sent 9⟩ }

theorem test_witness_FrameVerdictChecksInOrder :
    ((withState .service .run).station 2).state = .service ∧ (windowOpen.window.isOpen = true ∧
      (windowOpen.station 2).state = .normal ∧ (windowOpen.station 2).config.member = true) ∧
    (plant.window.isOpen = false ∧ (plant.station 2).state = .normal) ∧
    BankSound plant.settings.activeBank ∧ ((withState .quarantined .run).station 2).state = .quarantined ∧
    (vetItem plant (offered 1 1201 [310, 5]) .run 0 310 = .ok (some ⟨0, 2, .u16, 310, 310, none⟩) ∧
      vetItem plant (offered 1 1201 [310, 5]) .run 1 5 =
        .error (refuseValue ⟨2, 2, 1202⟩ .areaClosed none 3 (some 5) none)) ∧
    vetItems held (offered 0x0102 1201 [310]) .run [310] 0 = .ok [⟨0, 2, .u16, 310, 310, none⟩] ∧
    (∃ t ∈ held.txns, t.ref = ⟨2, 0x0102⟩) ∧
    (vetItems fullTable (offered 1 1201 [310]) .run [310] 0 = .ok [⟨0, 2, .u16, 310, 310, none⟩] ∧
      64 ≤ fullTable.txns.length ∧ ¬ ∃ t ∈ fullTable.txns, t.ref = ⟨2, 1⟩) ∧
    (lineDown.portL.up = false ∧ lineDown.txns.length < 64) ∧
    ((∃ c p t, held.image[(0 : Fin 512)] = .pending c p t) ∧ held.settings.activeBank[(0 : Fin 512)] = some fill ∧
      fill.key = (offered 1 1200 [5023]).key 0 ∧ plant.image[(0 : Fin 512)] = .known 5000 ∧
      State.reset.image[(0 : Fin 512)] = .unknown ∧
      kindOctets fill.kind = (offered 1 1200 [5023]).profile.valueWidth.toNat ∧ kindOctets fill.kind ≠ 4) ∧
    ((plant.station 2).policies[(2 : Fin 16)].unlisted = .window ∧
      gateEntry.policies[(2 : Fin 16)].unlisted = .refuse) ∧
    frameVerdict plant (offered 1 1200 [5023]) = .ok ⟨.run, [⟨0, 0, .u16, 5023, 5010, some .offGrid⟩]⟩ ∧
    ((offered 1 1200 [5023]).raws[0]? = some 5023 ∧ fill.key = (offered 1 1200 [5023]).key 0 ∧
      vetItems windowOpen (offered 1 1200 [5025, 310, 7]) .change [5025, 310, 7] 0 =
        .ok [⟨0, 0, .u16, 5025, 5025, none⟩, ⟨1, 2, .u16, 310, 310, none⟩] ∧
      vetItem windowOpen (offered 1 1200 [5025, 310, 7]) .change 2 7 = .ok none) :=
  ⟨by decide +kernel, by decide +kernel, by decide +kernel, plant_bank_sound, by decide +kernel, by decide +kernel,
    by decide +kernel, by decide +kernel, by decide +kernel, by decide +kernel,
    ⟨⟨some 5000, 5000, ⟨2, 0x0102⟩, by decide +kernel⟩, by decide +kernel⟩, by decide +kernel, by decide +kernel,
    by decide +kernel⟩

theorem test_witness_WriteRequestIsVetted : plant.ready .P 5 ∧
    (classifyArrival plant.settings plant.identity.address .P (writeFrame 1 1200 [5023]) = .identified .write 0 2 ∧
      frameVerdict plant (offered 1 1200 [5023]) = .ok ⟨.run, [⟨0, 0, .u16, 5023, 5010, some .offGrid⟩]⟩) ∧
    (classifyArrival plant.settings plant.identity.address .P (writeFrame 1 1200 [5010]) = .identified .write 0 2 ∧
      frameVerdict plant (offered 1 1200 [5010]) = .ok ⟨.run, [⟨0, 0, .u16, 5010, 5010, none⟩]⟩) ∧
    (classifyArrival plant.settings plant.identity.address .P (writeFrame 1 1202 [5]) = .identified .write 0 2 ∧
      frameVerdict plant (offered 1 1202 [5]) =
        .error (refuseValue ⟨2, 2, 1202⟩ .areaClosed none 3 (some 5) none)) ∧
    (frameVerdict windowOpen (offered 1 1202 [5]) = .ok ⟨.change, []⟩) :=
  ⟨⟨rfl, .inl rfl, by decide⟩, by decide +kernel, by decide +kernel, by decide +kernel, by decide +kernel⟩

theorem test_witness_RewrittenFrameKeepsTheRest :
    let w := offered 1 1200 [5023, 310]
    let listed : List Listed := [⟨0, 0, .u16, 5023, 5010, some .offGrid⟩, ⟨1, 2, .u16, 310, 310, none⟩]
    (listed.map (·.position)).Nodup ∧ 4 ≤ w.frame.length ∧ w.profile.byteOrder ≠ none ∧
    (∀ l ∈ listed, headerLength w.frame + w.profile.firstValueOffset.toNat +
      (l.position + 1) * w.profile.valueWidth.toNat ≤ w.frame.length - 4) ∧
    (∃ l ∈ listed, l.stage ≠ none) := by decide +kernel

/-! Frame arrival -/

def padded (n : Nat) : List Octet := withFcs (macOctets filler ++ macOctets eng ++ List.replicate (n - 16) 0)
theorem padded_length (n : Nat) (h : 16 ≤ n) : (padded n).length = n := by
  simp only [padded, withFcs_length, List.length_append, macOctets_length, List.length_replicate]; omega
def toOwn (type : Word16) : List Octet := formFrame own eng none type []

theorem test_witness_ArrivalChecksInOrder : plant.ready .P 5 ∧
    fcsGood (List.replicate 64 0) = false ∧
    (fcsGood (padded 63) = true ∧ (padded 63).length = 63) ∧ (fcsGood (padded 1523) = true ∧ (padded 1523).length = 1523) ∧
    (fcsGood (padded 1522) = true ∧ (padded 1522).length = 1522) ∧ fcsGood [] = false ∧
    (fcsGood (toOwn 0x8808#16) = true ∧ (toOwn 0x8808#16).length = 64 ∧ frameType (toOwn 0x8808#16) = 0x8808#16) ∧
    (fcsGood (toOwn 0x88B7#16) = true ∧ frameType (toOwn 0x88B7#16) ≠ 0x8808#16 ∧
      frameDestination (toOwn 0x88B7#16) = plant.identity.address ∧
      frameType (toOwn 0x88B7#16) ≠ plant.settings.managementType) ∧
    (plantDown.now ≤ 5 ∧ plantDown.phase = .running ∧ (plantDown.port .P).up = false ∧ (plantDown.port .P).lostAt ≠ some 5) ∧
    loading.phase.loading = true ∧ { plant with phase := .off }.phase.alive = false ∧ plantLost.ready .P (ms 5) :=
  ⟨⟨rfl, .inl rfl, by decide⟩, by decide +kernel, ⟨fcsGood_withFcs _, padded_length 63 (by omega)⟩,
    ⟨fcsGood_withFcs _, padded_length 1523 (by omega)⟩, ⟨fcsGood_withFcs _, padded_length 1522 (by omega)⟩,
    by decide +kernel, by decide +kernel, by decide +kernel, by decide, by decide, by decide, rfl, .inr rfl, by decide⟩

/-- The causes in the order of the checks, and a well-formed frame; a frame without and with a function code. -/
theorem test_witness_MalformedChecksInOrder :
    ((payload (fromFiller [])).length ≤ ({ prof with functionOffset := 46 } : Profile).functionOffset.toNat ∧
      prof.functionOffset.toNat < (payload (writeFrame 1 1200 [5])).length ∧
      prof.classify (octetAt (payload (writeFrame 1 1200 [5])) prof.functionOffset.toNat) = (.write, .request)) ∧
    malformation prof 513 (content 1 6 0 16 1 0 []) .write .request = some .length ∧
    malformation prof 64 ((content 1 6 0 16 1 0 []).take 8) .write .request = some .truncated ∧
    malformation prof 64 (content 1 6 0 16 1 0 []) .write .request = some .area ∧
    malformation prof 64 (content 1 6 0 15 1 9 []) .write .request = some .count ∧
    malformation prof 64 (content 1 6 0 15 65535 2 []) .write .request = some .indexRange ∧
    malformation prof 64 (content 1 6 0 15 65535 1 []) .write .request = some .truncated ∧
    malformation prof 64 (content 1 6 0 15 65535 1 [7]) .write .request = none ∧
    malformation prof 64 (content 1 3 0 15 65472 64 []) .read .request = none ∧
    malformation prof 64 [] .control .request = none := by decide +kernel

def foreignFrame : List Octet := formFrame filler eng none 0x0800#16 []
def dropping : State := { plant with settings := { plantSettings with plant := ⟨.drop, 4⟩ } }
def fromCell (fc : Octet) (area : Octet) : List Octet := fromFiller (content 1 fc 0 area 1 1 [5])
def toUnknown (fc : Octet) : List Octet := formFrame gate eng none 0x88D2#16 ((content 1 fc 0 2 1 1 [5]).set 2 9)
def classed (p : Port) (f : List Octet) : Arrival := classifyArrival plant.settings plant.identity.address p f

/-- On P a reply passes unexamined, and a request is identified, of an unknown station or plain; so on L a request and a
reply. -/
theorem test_witness_MalformedChecksInOrder_classes :
    (prof.functionMap.map (·.code)).Nodup ∧ prof.byteOrder ≠ none ∧
    matchProfile plantSettings (frameType (writeFrame 1 1200 [5])) (payload (writeFrame 1 1200 [5])) = some 0 ∧
    frameDestination (writeFrame 1 1200 [5]) ≠ own ∧ fcsGood (writeFrame 1 1200 [5]) = true ∧
    (identify plantSettings 0 filler (payload (writeFrame 1 1200 [5])) = some 2 ∧
      malformation prof (writeFrame 1 1200 [5]).length (payload (writeFrame 1 1200 [5])) .write .request = none ∧
      classed .P (writeFrame 1 1200 [5]) = .identified .write 0 2) ∧
    (classed .L (fromCell 0x03 2) = .unexamined .read ∧ classed .L (fromCell 0x83 2) = .identified .read 0 2 ∧
      classed .L (fromCell 0x20 2) = .unexamined .control ∧ classed .L (fromCell 0x90 2) = .plain .cyclic ∧
      classed .P (toFiller (content 1 0x77 0 0 0 0 [])) = .plain .other) := by decide +kernel

/-- R59's example: the octets 0xFF 0x38 in big-endian order are 65336 as U16 and -200 as S16; under LITTLE they are 0x38FF. -/
theorem test_field_order : prof.reads [0xFF, 0x38] 0 2 = 65336 ∧ kindReads .u16 2 65336 = 65336 ∧
    kindReads .s16 2 65336 = -200 ∧ Kind.s16.interpret 2 (prof.number [0xFF, 0x38]) = -200 ∧
    { prof with byteOrder := some .little }.reads [0xFF, 0x38] 0 2 = 0x38FF ∧
    { prof with byteOrder := some .little }.number [0xFF, 0x38] = 0x38FF := by decide

theorem test_witness_UnvettedFramesAreRouted : plant.ready .P 5 ∧ plant.ready .L 5 ∧
    (classed .P foreignFrame = .foreign ∧ (plant.settings.port .P).foreign = .pass) ∧
    (classifyArrival dropping.settings dropping.identity.address .P foreignFrame = .foreign ∧
      (dropping.settings.port .P).foreign = .drop) ∧
    (classed .P (toFiller (content 1 0x90 0 0 0 0 [])) = .unexamined .cyclic ∧
      classed .P (toFiller (content 1 0x10 0 0 0 0 [])) = .plain .cyclic) ∧
    (classed .P (toFiller (content 1 6 0 16 1 1 [])) = .malformed (some .write) .area ∧
      classed .L (fromCell 0x83 16) = .malformed (some .read) .area) ∧
    (classed .P (toUnknown 6) = .unknownStation .write ∧ classed .P (toUnknown 3) = .unknownStation .read ∧
      classed .L (formFrame eng own none 0x88D2#16 (content 1 0x83 0 2 1 1 [5])) = .unknownStation .read) :=
  ⟨⟨rfl, .inl rfl, by decide⟩, ⟨rfl, .inl rfl, by decide⟩, by decide +kernel⟩

theorem test_witness_GatedRequestsAreJudged : plant.ready .P 5 ∧
    (classed .P (toFiller (content 1 3 0 2 1200 1 [])) = .identified .read 0 2 ∧
      prof.area (payload (toFiller (content 1 3 0 2 1200 1 []))) = (2 : Fin 16).val ∧
      (plant.station 2).policies[(2 : Fin 16)].read = .pass) ∧
    (classed .P (toFiller (content 1 0x20 0 0 0 0 [])) = .identified .control 0 2 ∧
      classed .P (toFiller (content 1 0x30 0 0 0 0 [])) = .identified .program 0 2) ∧
    (windowOpen.window.isOpen = true ∧ (windowOpen.station 2).state = .normal ∧
      (windowOpen.station 2).config.member = true) ∧
    (plant.station 2).state = .normal ∧ ((withState .service .service).station 2).state = .service ∧
    ((withState .quarantined .run).station 2).state = .quarantined ∧
    ((withStation { fillerEntry with policies := fillerEntry.policies.set 2 ⟨.refuse, .refuse⟩ } plant).station 2).policies[
      (2 : Fin 16)].read = .refuse :=
  ⟨⟨rfl, .inl rfl, by decide⟩, by decide +kernel⟩

theorem test_witness_NoFrameGoesBackOut :
    (∃ s', exec (.frameArrival 5 .P true (toOwn 0x88B7#16)) plant = .next s') ∧
    frameDestination (toOwn 0x88B7#16) = plant.identity.address := by
  refine ⟨?_, by decide +kernel⟩
  unfold exec execFrameArrival
  dsimp only
  split
  · split <;> exact ⟨_, rfl⟩
  · exact ⟨_, rfl⟩

/-! Transactions and the image -/

def heldTxn : Txn := ⟨⟨2, 0x0102⟩, eng, .run, [0], .queued⟩
def changeTxn : Txn := { heldTxn with mode := .change }
def sentTxn : Txn := { heldTxn with state := .sent 240 }
def heldFrame : QueuedFrame := { forwardedFrame (writeFrame 0x0102 1200 [5000]) (some ⟨2, 0x0102⟩) with inTransmission := true }

/-- The plant with one transaction in its table, holding slot 0, its frame in transmission on L while it is QUEUED. -/
def holding (t : Txn) : State :=
  { plant with
    txns := [t]
    image := plant.image.set 0 (.pending (some 5000) 5000 ⟨2, 0x0102⟩)
    portL := { plant.portL with ordinary := if t.isQueued then [heldFrame] else [] } }

theorem holding_table (t : Txn) (h : t.slots = [0]) : TableSound (holding t) :=
  ⟨by simp [holding], by simp [holding], by intro x hx; simp [holding] at hx; subst hx; simp [h]⟩

theorem plant_image_known (i : Fin 512) (c : Option Int) (v : Int) (r : TxnRef) : plant.image[i] ≠ .pending c v r := by
  intro h
  change ((emptyImage.set 0 (.known 5000)).set 2 (.known 310))[i.val] = _ at h
  rw [Vector.getElem_set, Vector.getElem_set] at h
  split at h
  · cases h
  · split at h
    · cases h
    · simp [emptyImage] at h

theorem holding_image (t : Txn) (h : t.slots = [0]) (hr : t.ref = ⟨2, 0x0102⟩) : ImageSound (holding t) := by
  constructor
  · intro i c v r hp
    change (plant.image.set 0 (.pending (some 5000) 5000 ⟨2, 0x0102⟩))[i.val] = _ at hp
    rw [Vector.getElem_set] at hp
    split at hp
    · next h0 =>
      refine ⟨t, by simp [holding], ?_, ?_⟩
      · rw [hr]; cases hp; rfl
      · rw [h]; exact List.mem_singleton.mpr (Fin.ext h0.symm)
    · exact absurd hp (plant_image_known i c v r)
  · intro x hx i hi
    obtain rfl : x = t := by simpa [holding] using hx
    rw [h] at hi
    obtain rfl : i = 0 := by simpa using hi
    exact ⟨some 5000, 5000, by rw [hr]; simp [holding]⟩

theorem test_witness_ImageSlotTransitions : (5 : Int) ≠ 6 ∧ (⟨2, 1⟩ : TxnRef) ≠ ⟨2, 2⟩ ∧
    (ImageSlot.pending (some 5) 6 ⟨2, 1⟩).learn 7 = (.pending (some 7) 6 ⟨2, 1⟩, some ⟨some 5, true⟩) := by decide

def drifting : ReadOffer := ⟨2, 2, 1200, 2, [6000], filler⟩

theorem test_witness_ReadReplyTeachesTheImage :
    (plant.settings.activeBank[(0 : Fin 512)] = some fill ∧ fill.key = ⟨2, 2, 1200⟩ ∧
      lookup plant.settings.activeBank ⟨2, 2, 9⟩ = none) ∧
    (kindOctets fill.kind = 2 ∧ kindOctets fill.kind ≠ 4) ∧ prof.byteOrder ≠ none ∧
    (plant.image[(0 : Fin 512)].learn 5000).2 = none ∧ (plant.image[(0 : Fin 512)].learn 5050).2 = some ⟨some 5000, false⟩ ∧
    (fill.runLo ≤ 5050 ∧ 5050 ≤ fill.runHi ∧ fill.runHi < 5051 ∧ 4949 < fill.runLo) ∧
    ((plant.station 2).config.quarantineOnBreach = true ∧ (plant.station 2).state ≠ .quarantined) ∧
    (learnValue drifting false 0 6000 plant).2 = true ∧ plant.ready .L 5 ∧
    classed .L (fromFiller (content 0 0x83 0 2 1200 1 [6000])) = .identified .read 0 2 ∧
    prof.status (payload (fromFiller (content 0 0x83 0 2 1200 1 [6000]))) = prof.successStatus ∧
    prof.status (payload (fromFiller (content 0 0x83 1 2 1200 1 [6000]))) ≠ prof.successStatus :=
  ⟨by decide +kernel, by decide, by decide, by decide +kernel, by decide +kernel, by decide, by decide +kernel,
    by decide +kernel, ⟨rfl, .inl rfl, by decide⟩, by decide +kernel, by decide +kernel, by decide +kernel⟩

theorem test_witness_TransactionEndings :
    (TableSound (holding sentTxn) ∧ sentTxn ∈ (holding sentTxn).txns ∧ sentTxn.ref = ⟨2, 0x0102⟩ ∧
      sentTxn.state = .sent 240 ∧ sentTxn.mode = .run) ∧
    (TableSound (holding changeTxn) ∧ changeTxn ∈ (holding changeTxn).txns ∧ changeTxn.mode = .change ∧
      (holding changeTxn).window.isOpen = false) ∧
    { holding changeTxn with window := .opened 0 9 }.window.isOpen = true ∧
    ((holding sentTxn).ready .L 5 ∧ classed .L (reply 0x0102 0) = .identified .write 0 2 ∧
      prof.tag (payload (reply 0x0102 0)) = 0x0102#16 ∧ prof.tag (payload (reply 0x0103 0)) ≠ 0x0102#16) ∧
    ((holding sentTxn).phase = .running ∧ (holding sentTxn).now ≤ 239) :=
  ⟨⟨holding_table _ rfl, by simp [holding], rfl, rfl, rfl⟩, ⟨holding_table _ rfl, by simp [holding], rfl, rfl⟩, rfl,
    ⟨⟨rfl, .inl rfl, by decide⟩, by decide +kernel⟩, rfl, by decide⟩

/-! Egress and links -/

def small (n : Octet) : QueuedFrame := forwardedFrame [n] none
def fullPort : PortState :=
  { freshPort true with
    express := List.replicate 32 (small 1)
    ordinary := { small 2 with inTransmission := true } :: List.replicate 63 (small 2)
    runCount := 4 }
def aloneAt7 : PortState := (freshPort true).handOver 7 4 .express (small 1)

theorem test_witness_HandOverAndSelection :
    ((freshPort true).up = true ∧ ((freshPort true).queue .express).length < 32) ∧ (freshPort false).up = false ∧
    (fullPort.up = true ∧ ¬ (fullPort.queue .express).length < 32 ∧ ¬ (fullPort.queue .ordinary).length < 64) ∧
    (small 1).origin = .forwarded ∧ (partFrame [1] false).origin = .part ∧
    (∃ g, (g ∈ fullPort.express ∨ g ∈ fullPort.ordinary) ∧ g.inTransmission = true) ∧
    ((∀ g, g ∈ (freshPort true).express ∨ g ∈ (freshPort true).ordinary → g.inTransmission = false) ∧
      (freshPort true).ordinary = []) ∧
    (aloneAt7.up = true ∧ (aloneAt7.queue .ordinary).length < 64 ∧ aloneAt7.aloneAt = some 7 ∧ aloneAt7.ordinary = [] ∧
      (∃ g ∈ aloneAt7.express, g.inTransmission = true) ∧ aloneAt7.runCount < 4) ∧
    (let p := { freshPort true with express := [small 1], ordinary := [small 2], runCount := 4 };
      p.up = true ∧ (∀ g, g ∈ p.express ∨ g ∈ p.ordinary → g.inTransmission = false) ∧ 4 ≤ p.runCount ∧
        p.runCount < 5) := by
  refine ⟨by decide, rfl, by decide, rfl, rfl, ⟨{ small 2 with inTransmission := true }, .inr (by decide), rfl⟩,
    ⟨by simp [freshPort], rfl⟩, ⟨by decide, by decide, by decide, by decide, by decide, by decide⟩, rfl, ?_, by decide,
    by decide⟩
  intro g hg
  rcases hg with hg | hg <;> (obtain rfl := List.mem_singleton.mp hg; rfl)

theorem holding_port : PortSound (holding heldTxn).portL :=
  ⟨by decide, by decide, by decide, by decide, .inl (by decide), fun h => absurd h (by decide), fun h => absurd h (by decide)⟩

def restartSent : State :=
  { plant with portP := { plant.portP with ordinary := [{ partFrame [1] true with inTransmission := true }] } }

theorem restartSent_port : PortSound restartSent.portP :=
  ⟨by decide, by decide, by decide, by decide, .inl (by decide), fun h => absurd h (by decide), fun h => absurd h (by decide)⟩

theorem fresh_port (up : Bool) : PortSound (freshPort up) :=
  ⟨by simp [freshPort], by simp [freshPort], by simp [freshPort], by simp [freshPort], .inl rfl, fun _ => ⟨rfl, rfl⟩,
    fun _ => ⟨rfl, rfl, rfl⟩⟩

theorem test_witness_TransmissionCompletes :
    ((holding heldTxn).phase = .running ∧ (holding heldTxn).now ≤ 40 ∧ PortSound ((holding heldTxn).port .L) ∧
      ((holding heldTxn).port .L).queue .ordinary = [heldFrame] ∧ heldFrame.inTransmission = true ∧
      heldFrame.txn = some ⟨2, 0x0102⟩ ∧ heldFrame.restart = false) ∧
    (PortSound (restartSent.port .P) ∧ (restartSent.port .P).queue .ordinary = [{ partFrame [1] true with inTransmission := true }]) ∧
    (PortSound (plant.port .P) ∧ (plant.port .P).transmitterFree = true) :=
  ⟨⟨rfl, by decide, holding_port, rfl, rfl, rfl, rfl⟩, ⟨restartSent_port, rfl⟩, fresh_port true, rfl⟩

theorem test_witness_LinkChangesAct :
    (TableSound (holding changeTxn) ∧ ∃ x ∈ (holding changeTxn).txns.filter (·.isQueued), x.mode = .change) ∧
    (TableSound (holding heldTxn) ∧ ∀ x ∈ (holding heldTxn).txns.filter (·.isQueued), x.mode = .run) ∧
    ((holding heldTxn).phase = .running ∧ (holding heldTxn).now ≤ 0 ∧ ((holding heldTxn).port .L).up = true ∧
      ∀ f ∈ ((holding heldTxn).port .L).allFrames, f.restart = false) ∧
    ((restartSent.port .P).up = true ∧ ∃ f ∈ (restartSent.port .P).allFrames, f.restart = true) ∧
    (lineDown.phase = .running ∧ (lineDown.port .L).up = false) :=
  ⟨⟨holding_table _ rfl, by decide⟩, ⟨holding_table _ rfl, by decide⟩, by decide, by decide, by decide⟩

/-! Events -/

def promoting : Settings := { defaultSettings with promotionA := some .keyFault, promotionB := some .drift }

theorem test_witness_EventLevelsAndMasks : storeInvalidEvent.natural = 7 ∧
    ((keyFaultEvent none).natural ≠ 7 ∧ promoting.promotionA = some (keyFaultEvent none).kind) ∧
    ((timeoutEvent heldTxn none).natural ≠ 7 ∧ promoting.promotionA ≠ some (timeoutEvent heldTxn none).kind ∧
      promoting.promotionB ≠ some (timeoutEvent heldTxn none).kind) ∧
    promoting.promotionB = some EventKind.drift := by decide

def fullQueue : List EventRecord := List.replicate 32 (event 3 1)

theorem test_witness_EventJoinsDisplacesOrIsLost : ([] : List EventRecord).length < 32 ∧ fullQueue.length = 32 ∧
    (enterQueue fullQueue 0 (event 4 2)).joined = true ∧ (enterQueue fullQueue 0 (event 3 2)).joined = false := by
  decide +kernel

def noticed : State := { plant with settings := { plantSettings with notice := some ⟨eng, .L⟩ } }

theorem test_witness_RaisedEventIsTaken :
    (entryOf noticed (makeRecord noticed.settings noticed.now storeInvalidEvent)).joined = true ∧
    noticed.settings.notice = some ⟨eng, .L⟩ ∧ plant.settings.notice = none ∧ storeInvalidEvent.natural = 7 ∧
    plant.settings.triggers.level7 = true ∧ (keyFaultEvent none).natural ≠ 7 := by decide +kernel

def queued : State := { plant with events := [event 3 1, event 6 2, event 6 3], alarm := true }

theorem test_witness_TakeEventTakesTheHighest : (Served .takeEvent (ask []) plant ∧ plant.events = []) ∧
    (Served .takeEvent (ask []) queued ∧ queued.events ≠ []) :=
  ⟨⟨served_of _ _ _ (by decide +kernel), rfl⟩, served_of _ _ _ (by decide +kernel), by decide⟩

def force (level : Octet) (value : Int) : Request := ask (level :: beOctetsInt 8 value)
def control (a b : Octet) : Request :=
  ask ([6] ++ List.replicate 36 1 ++ [a, b, 1, 2] ++ macOctets eng)
def inService : State := keyAt .service plant

theorem test_witness_EventRequestsAct :
    (Served .forceEvent (force 7 281474976710655) inService ∧
      toSigned 8 (beNat (slice (argsOf (force 7 281474976710655)) 1 8)) = 281474976710655) ∧
    (Served .forceEvent (force 8 0) inService ∧ Served .forceEvent (force 1 281474976710656) inService) ∧
    (Served .setEventControl (control 0x0B 0) plant ∧
      readEventControl plant.identity.address (argsOf (control 0x0B 0)) = none) ∧
    (Served .setEventControl (control 0x0A 0x0A) plant ∧
      (readEventControl plant.identity.address (argsOf (control 0x0A 0x0A))).map
        (fun c => (c.promotionA, c.promotionB, c.notice)) = some (some .drift, some .drift, some ⟨eng, .L⟩)) ∧
    (Served .setEventControl (control 0x0A 0x10) plant ∧
      (readEventControl plant.identity.address (argsOf (control 0x0A 0x10))).map
        (fun c => (c.promotionA, c.promotionB, c.alarmMask)) = some (some .drift, some .keyFault, 6)) :=
  ⟨⟨served_of _ _ _ (by decide +kernel), by decide +kernel⟩,
    ⟨served_of _ _ _ (by decide +kernel), served_of _ _ _ (by decide +kernel)⟩,
    ⟨served_of _ _ _ (by decide +kernel), by decide +kernel⟩, ⟨served_of _ _ _ (by decide +kernel), by decide +kernel⟩,
    served_of _ _ _ (by decide +kernel), by decide +kernel⟩

/-! The lock, the settings, the store and the starts -/

def managerList (a b : Option Mac) : Vector (Option Mac) 4 := #v[a, b, none, none]
def setManagers (l : Vector (Option Mac) 4) : Request := ask (l.toList.flatMap optMacOctets)
def portSettings (m : Word16) : Request := ask ([1, 2, 0, 17] ++ beOctets 2 m.toNat)
def windowSettings (h : Nat) : Request := ask (beOctets 2 h ++ [0x1F])

theorem test_witness_SystemRequestsAct :
    Served .lockTables (ask []) plant ∧ Served .unlockTables (ask []) inService ∧
    (Served .setManagers (setManagers (managerList (some eng) (some filler))) inService ∧
      argsOf (setManagers (managerList (some eng) (some filler))) =
        (managerList (some eng) (some filler)).toList.flatMap optMacOctets ∧
      (∀ i : Fin 4, (managerList (some eng) (some filler))[i] ≠ some 0) ∧
      (∀ i j : Fin 4, i ≠ j → (managerList (some eng) (some filler))[i] = (managerList (some eng) (some filler))[j] →
        (managerList (some eng) (some filler))[i] = none)) ∧
    ((managerList (some own) none)[(0 : Fin 4)] = some inService.identity.address ∧
      (managerList (some eng) (some eng))[(0 : Fin 4)] = (managerList (some eng) (some eng))[(1 : Fin 4)]) ∧
    (Served .setPortSettings (portSettings 0x0600#16) plant ∧
      argsOf (portSettings 0x0600#16) =
        [ForeignPolicy.pass.code, ForeignPolicy.drop.code, 0, 17] ++ beOctets 2 (0x0600#16).toNat) ∧
    (Served .setPortSettings (portSettings 0x05FF#16) plant ∧ (0x05FF#16).toNat < 0x0600) ∧
    (Served .setPortSettings (ask [3, 1, 4, 4, 6, 0]) plant ∧
      ForeignPolicy.ofCode (octetAt (argsOf (ask [3, 1, 4, 4, 6, 0])) 0) = none) ∧
    (Served .setWindowSettings (windowSettings 600) plant ∧
      argsOf (windowSettings 600) = beOctets 2 600 ++ [(⟨true, true, true, true, true⟩ : TriggerSet).code]) ∧
    (Served .setWindowSettings (windowSettings 601) plant ∧ 600 < 601) ∧
    (Served .setWindowSettings (ask [0, 1, 32]) plant ∧ 32 ≤ (octetAt (argsOf (ask [0, 1, 32])) 2).toNat) :=
  ⟨served_of _ _ _ (by decide +kernel), served_of _ _ _ (by decide +kernel),
    ⟨served_of _ _ _ (by decide +kernel), by decide +kernel⟩, by decide +kernel,
    ⟨served_of _ _ _ (by decide +kernel), by decide +kernel⟩, ⟨served_of _ _ _ (by decide +kernel), by decide⟩,
    ⟨served_of _ _ _ (by decide +kernel), by decide⟩, ⟨served_of _ _ _ (by decide +kernel), by decide +kernel⟩,
    ⟨served_of _ _ _ (by decide +kernel), by decide⟩, served_of _ _ _ (by decide +kernel), by decide⟩

def fullP : State := { plant with portP := fullPort }

theorem test_witness_SaveAndRestartAct : Served .saveSettings (ask []) plant ∧
    (saving.phase = .running ∧ saving.now ≤ 400 ∧ saving.save = .saving plantSettings ∧ plant.saving = false) ∧
    (Served .restart (ask []) plant ∧ (plant.port (ask []).port).ordinary.length < 64) ∧
    (Served .restart (ask []) fullP ∧ 64 ≤ (fullP.port (ask []).port).ordinary.length) ∧
    (Served .restart (ask []) plantLost ∧ (plantLost.port (ask []).port).up = false) :=
  ⟨served_of _ _ _ (by decide +kernel), ⟨rfl, by decide, rfl, rfl⟩, ⟨served_of _ _ _ (by decide +kernel), by decide⟩,
    ⟨served_of _ _ _ (by decide +kernel), by decide⟩, served_of _ _ _ (by decide +kernel), by decide⟩

theorem test_witness_StartsAct : plant.phase ≠ .off ∧ { plant with phase := .off }.phase = .off ∧
    { plant with phase := .resetHeld }.phase = .resetHeld ∧ (loading.phase.loading = true ∧ loading.now ≤ 0) := by decide

/-! What every step keeps: each invariant holds of a state with something to lose, and a command waits that steps -/

def waiting (c : Instr) (s : State) : State := { s with pending := [c] }

theorem test_witness_EventQueueKept : EventUnitSound (waiting (.linkUp 5 .P) queued) ∧
    (∃ s', step (waiting (.linkUp 5 .P) queued) = .next s') ∧ clearsAll (.linkUp 5 .P) = false ∧
    mayCarry .takeEvent (.linkUp 5 .P) = false ∧ (makeRecord plantSettings 0 storeInvalidEvent).effective = 7 :=
  ⟨⟨by decide, by decide, by decide⟩, ⟨_, rfl⟩, rfl, rfl, rfl⟩

theorem test_witness_StationCountersNeverFall : (∃ s', exec (.linkUp 5 .P) plant = .next s') ∧
    clearsAll (.linkUp 5 .P) = false ∧ mayCarry .clearCounters (.linkUp 5 .P) = false := ⟨⟨_, rfl⟩, rfl, rfl⟩

theorem test_witness_TransactionsAndImageKept :
    (∃ s', step (waiting (.transmissionComplete 40 .L) (holding heldTxn)) = .next s') ∧
    TableSound (waiting (.transmissionComplete 40 .L) (holding heldTxn)) ∧
    ImageSound (waiting (.transmissionComplete 40 .L) (holding heldTxn)) :=
  ⟨⟨_, rfl⟩, ⟨(holding_table heldTxn rfl).1, (holding_table heldTxn rfl).2, (holding_table heldTxn rfl).3⟩,
    (holding_image heldTxn rfl rfl).1, (holding_image heldTxn rfl rfl).2⟩

theorem test_witness_MarksFollowTheTable : (∃ s', step (waiting (.transmissionComplete 40 .L) (holding heldTxn)) = .next s') ∧
    TableSound (holding heldTxn) ∧ MarksSound (waiting (.transmissionComplete 40 .L) (holding heldTxn)) :=
  ⟨⟨_, rfl⟩, holding_table heldTxn rfl,
    ⟨[], [heldTxn], rfl, by simp, by simp [heldTxn, Txn.isQueued], rfl⟩, by decide, by decide, by decide⟩

theorem test_witness_QueuesKept : (∃ s', step (waiting (.linkUp 5 .P) (holding heldTxn)) = .next s') ∧
    WindowSound (holding heldTxn) ∧ QueuesSound (waiting (.linkUp 5 .P) (holding heldTxn)) :=
  ⟨⟨_, rfl⟩, ⟨fun h => absurd h (by decide), fun _ _ h => absurd h (by simp [holding, plant, State.reset]),
    fun h => absurd h (by decide)⟩, fresh_port true, holding_port, fun _ => ⟨rfl, rfl⟩, fun h => absurd h (by decide)⟩

theorem test_witness_WindowAndServiceKept : (∃ s', step (waiting (.linkUp 5 .P) windowOpen) = .next s') ∧
    WindowSound (waiting (.linkUp 5 .P) windowOpen) ∧ ServiceSound (withState .service .service) := by
  refine ⟨⟨_, rfl⟩, ⟨fun _ => rfl, ?_, fun h => absurd h (by decide)⟩, ⟨by decide +kernel, fun h => absurd h (by decide)⟩⟩
  intro o d h
  cases h
  decide

theorem empty_sound : BankSound emptyBank :=
  ⟨fun i r h => by simp [emptyBank] at h, fun i j r r' h => by simp [emptyBank] at h⟩

theorem default_profile (i : Fin 4) : defaultSettings.profiles[i].inUse ≠ true := by decide +revert

theorem plant_profile (i : Fin 4) (h : plantSettings.profiles[i].inUse = true) :
    i = 0 ∧ plantSettings.profiles[i] = prof := by decide +revert +kernel

theorem plant_ranges : RangesGood own plantSettings where
  profiles i h := by rw [(plant_profile i h).2]; exact prof_sound
  profilesDiffer i j hij hi hj := absurd ((plant_profile i hi).1.trans (plant_profile j hj).1.symm) hij
  addresses := by decide +kernel
  mask := by decide
  holdOff := by decide
  shares := by decide
  managementType := by decide
  promotion k h := h.elim (fun h => nomatch h) fun h => nomatch h
  slotsDiffer _ := rfl
  managers i m h := by simp [plantSettings, defaultSettings] at h
  notice d h := by cases h

theorem default_ranges : RangesGood own defaultSettings where
  profiles i h := absurd h (default_profile i)
  profilesDiffer i _ _ hi := absurd hi (default_profile i)
  addresses := by decide +kernel
  mask := by decide
  holdOff := by decide
  shares := by decide
  managementType := by decide
  promotion k h := h.elim (fun h => nomatch h) fun h => nomatch h
  slotsDiffer _ := rfl
  managers i m h := by simp [defaultSettings] at h
  notice d h := by cases h

theorem test_witness_SettingsKept : (∃ s', step (waiting (.linkUp 5 .P) plant) = .next s') ∧ BanksSound plant ∧
    StationsSound plant ∧ RangesSound plant := by
  refine ⟨⟨_, rfl⟩, ⟨⟨plant_bank_sound, empty_sound⟩, ⟨empty_sound, empty_sound⟩, fun c h => by cases h⟩,
    ⟨plant_distinct, ?_, fun c h => by cases h⟩, ⟨plant_ranges, default_ranges, fun c h => by cases h⟩, by decide,
    fun h => by cases h⟩
  intro i j _ hi
  change (Vector.replicate 32 defaultStation)[i.val].inUse = true at hi
  rw [Vector.getElem_replicate] at hi
  cases hi

theorem test_witness_LockedTablesHold : (∃ s', step (waiting (.linkUp 5 .P) managed) = .next s' ∧ s'.phase = .running) ∧
    managed.phase = .running ∧ managed.settings.lock = .locked ∧ managed.keyPosition = .run :=
  ⟨⟨_, rfl, rfl⟩, rfl, rfl, rfl⟩

theorem test_witness_NonManagerChangesNothing : isManager managed.settings.managers (ask []).requester = false ∧
    managed.keyPosition ≠ .service ∧ ∃ s', exec (RequestKind.restart.command (ask [])) managed = .next s' :=
  ⟨by decide, by decide, ⟨_, exec_command _ _ _⟩⟩

end Sys2Proof.Tests
end

/-! PROOFS. Profile matching (R9): when a profile matches, which of the matching profiles is the frame's, and what is foreign. -/

namespace Sys2Proof.Machine

/-- A one-octet field lies in the payload and has the value exactly where a lookup at its offset finds the value. -/
theorem hasField_octetAt_iff (pl : List Octet) (offset : Word16) (v : Octet) :
    hasField pl offset 1 = true ∧ octetAt pl offset.toNat = v ↔ pl[offset.toNat]? = some v := by
  simp only [hasField, octetAt, decide_eq_true_eq, List.getD_eq_getElem?_getD, List.getElem?_eq_some_iff, ← exists_prop]
  exact exists_congr fun inside => by rw [List.getElem?_eq_getElem inside, Option.getD_some]

/-- The three conditions under which a frame matches a profile (R9). -/
theorem Profile.matchesFrame_iff (p : Profile) (type : Word16) (pl : List Octet) :
    p.matchesFrame type pl = true ↔ p.inUse = true ∧ p.frameType = type ∧
      (p.discriminator = none ∨ ∃ d, p.discriminator = some d ∧ pl[d.offset.toNat]? = some d.value) := by
  cases hd : p.discriminator with
  | none => simp [Profile.matchesFrame, hd]
  | some d => simp [Profile.matchesFrame, hd, ← hasField_octetAt_iff, and_assoc]

/-- The search goes through the profiles in number order and stops at the first that matches. -/
theorem matchProfile_eq_some_iff (st : Settings) (type : Word16) (pl : List Octet) (i : Fin 4) :
    matchProfile st type pl = some i ↔ st.profiles[i].matchesFrame type pl = true ∧
      ∀ j : Fin 4, j < i → ¬ st.profiles[j].matchesFrame type pl = true := by
  simp only [matchProfile, ← Fin.find?_eq_find?_finRange, Fin.find?_eq_some_iff, Bool.not_eq_true]

theorem matchProfile_eq_none_iff (st : Settings) (type : Word16) (pl : List Octet) :
    matchProfile st type pl = none ↔ ∀ i : Fin 4, ¬ st.profiles[i].matchesFrame type pl = true := by
  simp only [matchProfile, ← Fin.find?_eq_find?_finRange, Fin.find?_eq_none_iff, Bool.not_eq_true]

/-- A frame of a profile is never foreign: each of its endings names a class or a malformation (R11 to R19). -/
theorem classifyMatched_ne_foreign (st : Settings) (port : Port) (f : List Octet) (prof : Fin 4) :
    classifyMatched st port f prof ≠ .foreign := by
  simp only [classifyMatched]
  split_ifs with hasCode examined identified
  · split
    case h_1 cause malformed => simp
    case h_2 wellFormed => split <;> simp
  · split <;> simp
  · simp
  · simp

/-- Of the frames that are not the part's own, those without a profile are foreign. -/
theorem classifyAccepted_foreign_iff (st : Settings) (own : Mac) (port : Port) (f : List Octet)
    (elsewhere : frameDestination f ≠ own) :
    classifyAccepted st own port f = .foreign ↔ matchProfile st (frameType f) (payload f) = none := by
  rw [classifyAccepted, if_neg elsewhere]
  cases matchProfile st (frameType f) (payload f) with
  | none => simp
  | some prof => simp [classifyMatched_ne_foreign]

/-- Settles O15: the search of R9 finds the least profile that matches, and only its failure makes a frame foreign. -/
theorem firstMatchingProfileWins : Obligations.FirstMatchingProfileWins := by
  unfold Obligations.FirstMatchingProfileWins
  intro st type pl
  simp only [← Profile.matchesFrame_iff]
  refine ⟨matchProfile_eq_some_iff st type pl, matchProfile_eq_none_iff st type pl, ?_⟩
  rintro own port f rfl rfl elsewhere
  rw [classifyAccepted_foreign_iff st own port f elsewhere, matchProfile_eq_none_iff]

end Sys2Proof.Machine

/-! PROOFS. The requests on the station table (R24 to R27, R36, R37): the readers of their octets, the cases of each owning
rule, and what the request command comes to in each. -/

namespace Sys2Proof.Machine

/-! ### Refusals by the owning rule -/

/-- A request its owning rule refuses is denied: the counterpart of `exec_accepted` (R158, R160, R161). -/
theorem exec_refused (k : RequestKind) (q : Request) (s : State) (c : ResultCode) (served : Served k q s)
    (own : ownRule k q { s with now := q.time } = refuse c { s with now := q.time }) :
    exec (k.command q) s = .next (s.denied k q c) := by
  rw [exec_command, State.request, take_hears q _ s served.1, judge, commonRefusal_served k q s served]
  simp only [own]
  cases c <;> rfl

/-! ### Numbers and codes in octets -/

/-- An octet that carries a number below `m` names it. -/
theorem finOfNat_of_octet {m : Nat} (small : m ≤ 256) {o : Octet} {n : Fin m} (names : o = BitVec.ofNat 8 n.val) :
    finOfNat m o.toNat = some n := by
  have carried : o.toNat = n.val := by
    rw [names, BitVec.toNat_ofNat]
    exact Nat.mod_eq_of_lt (lt_of_lt_of_le n.isLt small)
  rw [carried, finOfNat, dif_pos n.isLt]

theorem exists_finOfNat_eq_some_iff (m v : Nat) : (∃ n, finOfNat m v = some n) ↔ v < m := by
  simp only [finOfNat]
  split <;> simp_all

theorem IdMode.exists_ofCode_eq_some_iff (o : Octet) : (∃ m, IdMode.ofCode o = some m) ↔ o = 1 ∨ o = 2 := by
  simp only [← BitVec.toNat_inj, IdMode.ofCode]
  split <;> simp_all

theorem exists_boolOfCode_eq_some_iff (o : Octet) : (∃ b, boolOfCode o = some b) ↔ o.toNat ≤ 1 := by
  simp only [Nat.le_one_iff_eq_zero_or_eq_one, boolOfCode]
  split <;> simp_all

theorem UnlistedVerdict.ofCode_eq_some_iff (o : Octet) (u : UnlistedVerdict) :
    UnlistedVerdict.ofCode o = some u ↔ o = u.code := by
  constructor
  · intro listed
    simp only [UnlistedVerdict.ofCode] at listed
    split at listed <;> cases listed <;> exact BitVec.eq_of_toNat_eq ‹_›
  · rintro rfl
    cases u <;> rfl

theorem ReadVerdict.ofCode_eq_some_iff (o : Octet) (r : ReadVerdict) : ReadVerdict.ofCode o = some r ↔ o = r.code := by
  constructor
  · intro listed
    simp only [ReadVerdict.ofCode] at listed
    split at listed <;> cases listed <;> exact BitVec.eq_of_toNat_eq ‹_›
  · rintro rfl
    cases r <;> rfl

/-! ### Station configurations -/

theorem readStationConfig_address {o : List Octet} {c : StationConfig} (read : readStationConfig o = some c) :
    c.address = macAt o 1 := by
  simp only [readStationConfig, Option.bind_eq_bind, Option.bind_eq_some_iff, Option.pure_def, Option.some.injEq] at read
  obtain ⟨mode, -, profile, -, member, -, onBreach, -, enters, -, rfl⟩ := read
  rfl

/-- A configuration can be read where each of its coded fields holds a listed code. -/
theorem exists_readStationConfig_iff (o : List Octet) : (∃ c, readStationConfig o = some c) ↔
    (octetAt o 0 = 1 ∨ octetAt o 0 = 2) ∧ (octetAt o 8).toNat ≤ 3 ∧ (octetAt o 9).toNat ≤ 1 ∧
      (octetAt o 10).toNat ≤ 1 ∧ (octetAt o 11).toNat ≤ 1 := by
  have profile_iff : (octetAt o 8).toNat ≤ 3 ↔ ∃ p, finOfNat 4 (octetAt o 8).toNat = some p := by
    rw [exists_finOfNat_eq_some_iff, Nat.lt_succ_iff]
  simp only [profile_iff, ← IdMode.exists_ofCode_eq_some_iff, ← exists_boolOfCode_eq_some_iff,
    readStationConfig, Option.bind_eq_bind, Option.bind_eq_some_iff]
  constructor
  · rintro ⟨c, mode, hmode, profile, hprofile, member, hmember, onBreach, hbreach, enters, henters, -⟩
    exact ⟨⟨mode, hmode⟩, ⟨profile, hprofile⟩, ⟨member, hmember⟩, ⟨onBreach, hbreach⟩, enters, henters⟩
  · rintro ⟨⟨mode, hmode⟩, ⟨profile, hprofile⟩, ⟨member, hmember⟩, ⟨onBreach, hbreach⟩, enters, henters⟩
    exact ⟨_, mode, hmode, profile, hprofile, member, hmember, onBreach, hbreach, enters, henters, rfl⟩

/-- The octets hold a configuration that passes check 3 of R24 on a part with hardware address `own`. -/
def ConfigOctetsGood (own : Mac) (o : List Octet) : Prop :=
  (octetAt o 0 = 1 ∨ octetAt o 0 = 2) ∧ (octetAt o 8).toNat ≤ 3 ∧ (octetAt o 9).toNat ≤ 1 ∧
    (octetAt o 10).toNat ≤ 1 ∧ (octetAt o 11).toNat ≤ 1 ∧ isGroup (macAt o 1) = false ∧ macAt o 1 ≠ own

theorem configOctetsGood_iff (own : Mac) (o : List Octet) : ConfigOctetsGood own o ↔
    (∃ c, readStationConfig o = some c) ∧ isGroup (macAt o 1) = false ∧ macAt o 1 ≠ own := by
  simp only [ConfigOctetsGood, exists_readStationConfig_iff, and_assoc]

theorem exists_readStationConfig_of_good {own : Mac} {o : List Octet} (good : ConfigOctetsGood own o) :
    ∃ c, readStationConfig o = some c ∧ c.address = macAt o 1 := by
  obtain ⟨⟨c, read⟩, -⟩ := (configOctetsGood_iff own o).mp good
  exact ⟨c, read, readStationConfig_address read⟩

/-- Another in-use entry than `n` excludes the configuration (R25). -/
def ConfigExcluded (s : State) (n : Fin 32) (c : StationConfig) : Prop :=
  ∃ i : Fin 32, i ≠ n ∧ (s.station i).inUse = true ∧ (s.station i).config.address = c.address ∧
    ¬ ((s.station i).config.mode = .embedded ∧ c.mode = .embedded ∧ (s.station i).config.embedded ≠ c.embedded)

/-- Two configurations of one address are told apart only by the numbers of two EMBEDDED entries (R25). -/
theorem configsClash_iff (a b : StationConfig) : configsClash a b = true ↔
    b.address = a.address ∧ ¬ (b.mode = .embedded ∧ a.mode = .embedded ∧ b.embedded ≠ a.embedded) := by
  rw [configsClash, Bool.and_eq_true, decide_eq_true_eq, eq_comm]
  cases a.mode <;> cases b.mode <;> simp [eq_comm]

/-- The search of LOAD STATION finds an entry exactly where one excludes the configuration. -/
theorem any_configsClash_iff (s : State) (n : Fin 32) (c : StationConfig) :
    ((List.finRange 32).any fun i => decide (i ≠ n) && (s.station i).inUse && configsClash c (s.station i).config) = true ↔
      ConfigExcluded s n c := by
  simp [ConfigExcluded, configsClash_iff, and_assoc]

/-- The entry has transactions in flight exactly where one of the table names it. -/
theorem inFlight_iff (s : State) (n : Fin 32) : s.inFlight n = true ↔ ∃ t ∈ s.txns, t.ref.station = n := by
  simp [State.inFlight]

/-! ### The owning rules on an entry in range -/

section
variable {n : Fin 32} {q : Request} {s : State} (names : octetAt (argsOf q) 0 = BitVec.ofNat 8 n.val)
include names

/-- The first argument octet of each of these requests is the number of its entry. -/
theorem entry_named : finOfNat 32 (octetAt (argsOf q) 0).toNat = some n := finOfNat_of_octet (by decide) names

theorem ownLoadStation_busy (busy : ∃ t ∈ s.txns, t.ref.station = n) : ownLoadStation q s = refuse .busy s := by
  simp only [ownLoadStation, entry_named names, if_pos ((inFlight_iff s n).mpr busy)]

theorem ownLoadStation_bad (free : ¬ ∃ t ∈ s.txns, t.ref.station = n)
    (bad : ¬ ConfigOctetsGood s.identity.address ((argsOf q).drop 1)) : ownLoadStation q s = refuse .badValue s := by
  simp only [ownLoadStation, entry_named names, if_neg (mt (inFlight_iff s n).mp free)]
  cases read : readStationConfig ((argsOf q).drop 1) with
  | none => rfl
  | some c =>
    have barred : isGroup c.address = true ∨ c.address = s.identity.address := by
      by_contra fits
      rw [not_or, Bool.not_eq_true, readStationConfig_address read] at fits
      exact bad ((configOctetsGood_iff _ _).mpr ⟨⟨c, read⟩, fits⟩)
    exact if_pos barred

/-- Past the checks of R24 the uniqueness of R25 decides. -/
theorem ownLoadStation_good {c : StationConfig} (read : readStationConfig ((argsOf q).drop 1) = some c)
    (free : ¬ ∃ t ∈ s.txns, t.ref.station = n) (good : ConfigOctetsGood s.identity.address ((argsOf q).drop 1)) :
    (ConfigExcluded s n c → ownLoadStation q s = refuse .duplicate s) ∧
    (¬ ConfigExcluded s n c → ownLoadStation q s = accept [] (s.setStation n
      { s.station n with inUse := true, config := c, state := stateAfterLoad (s.station n) })) := by
  obtain ⟨-, unicast, elsewhere⟩ := (configOctetsGood_iff _ _).mp good
  rw [← readStationConfig_address read] at unicast elsewhere
  have fits : ¬ (isGroup c.address = true ∨ c.address = s.identity.address) := by simp [unicast, elsewhere]
  simp only [ownLoadStation, entry_named names, if_neg (mt (inFlight_iff s n).mp free), read, if_neg fits]
  exact ⟨fun excluded => if_pos ((any_configsClash_iff s n c).mpr excluded),
    fun admitted => if_neg (mt (any_configsClash_iff s n c).mp admitted)⟩

theorem ownClearStation_busy (busy : ∃ t ∈ s.txns, t.ref.station = n) : ownClearStation q s = refuse .busy s := by
  simp only [ownClearStation, entry_named names, if_pos ((inFlight_iff s n).mpr busy)]

/-- Without transactions in flight the quarantine decides (R27). -/
theorem ownClearStation_free (free : ¬ ∃ t ∈ s.txns, t.ref.station = n) :
    ((s.station n).state = .quarantined → ownClearStation q s = refuse .wrongState s) ∧
    ((s.station n).state ≠ .quarantined → ownClearStation q s = accept [] (s.setStation n
      { s.station n with inUse := false, state := .normal, policies := Vector.replicate 16 defaultPolicy })) := by
  simp only [ownClearStation, entry_named names, if_neg (mt (inFlight_iff s n).mp free)]
  exact ⟨fun quarantined => if_pos quarantined, fun released => if_neg released⟩

theorem ownLoadAreaPolicy_above (above : 15 < (octetAt (argsOf q) 1).toNat) :
    ownLoadAreaPolicy q s = refuse .badValue s := by
  have noArea : finOfNat 16 (octetAt (argsOf q) 1).toNat = none := dif_neg (by omega)
  simp only [ownLoadAreaPolicy, entry_named names, noArea]

theorem ownLoadAreaPolicy_unused (area : (octetAt (argsOf q) 1).toNat ≤ 15) (unused : (s.station n).inUse = false) :
    ownLoadAreaPolicy q s = refuse .wrongState s := by
  obtain ⟨a, named⟩ := (exists_finOfNat_eq_some_iff 16 _).mpr (Nat.lt_succ_of_le area)
  simp only [ownLoadAreaPolicy, entry_named names, named, if_pos unused]

theorem ownLoadAreaPolicy_unlisted (area : (octetAt (argsOf q) 1).toNat ≤ 15) (used : (s.station n).inUse = true)
    (unlisted : (∀ u : UnlistedVerdict, octetAt (argsOf q) 2 ≠ u.code) ∨ ∀ r : ReadVerdict, octetAt (argsOf q) 3 ≠ r.code) :
    ownLoadAreaPolicy q s = refuse .badValue s := by
  obtain ⟨a, named⟩ := (exists_finOfNat_eq_some_iff 16 _).mpr (Nat.lt_succ_of_le area)
  simp only [ownLoadAreaPolicy, entry_named names, named, used, Bool.true_eq_false, if_false]
  simp only [← UnlistedVerdict.ofCode_eq_some_iff, ← ReadVerdict.ofCode_eq_some_iff, ne_eq,
    ← Option.eq_none_iff_forall_ne_some] at unlisted
  split
  next u r hu hr => simp [hu, hr] at unlisted
  next => rfl
  next => rfl

theorem ownLoadAreaPolicy_listed {a : Fin 16} {u : UnlistedVerdict} {r : ReadVerdict}
    (used : (s.station n).inUse = true) (area : octetAt (argsOf q) 1 = BitVec.ofNat 8 a.val)
    (unlisted : octetAt (argsOf q) 2 = u.code) (read : octetAt (argsOf q) 3 = r.code) :
    ownLoadAreaPolicy q s = accept [] (s.setStation n
      { s.station n with policies := (s.station n).policies.set a ⟨u, r⟩ }) := by
  have hu := (UnlistedVerdict.ofCode_eq_some_iff _ u).mpr unlisted
  have hr := (ReadVerdict.ofCode_eq_some_iff _ r).mpr read
  simp only [ownLoadAreaPolicy, entry_named names, finOfNat_of_octet (by decide) area, used, Bool.true_eq_false, if_false,
    hu, hr]

theorem ownClearCounters_accepted : ownClearCounters q s = accept [] (s.setCounters n zeroStationCounters) := by
  simp only [ownClearCounters, entry_named names]

end

/-- Settles O12: each clause is one case of an owning rule, carried to the command by `exec_refused` or `exec_accepted`. -/
theorem stationTableRequestsWrite : Obligations.StationTableRequestsWrite := by
  unfold Obligations.StationTableRequestsWrite
  intro n q s names
  refine ⟨?loadBusy, ?loadBad, exists_readStationConfig_of_good, ?loadDuplicate, ?loadAccepted, ?clearBusy,
    ?clearQuarantined, ?clearAccepted, ?policyAbove, ?policyUnused, ?policyUnlisted, ?policyAccepted, ?countersCleared⟩
  case loadBusy => exact fun served busy => exec_refused .loadStation q s _ served (ownLoadStation_busy names busy)
  case loadBad => exact fun served free bad => exec_refused .loadStation q s _ served (ownLoadStation_bad names free bad)
  case loadDuplicate =>
    intro c served read free good excluded
    obtain ⟨own, -⟩ := ownLoadStation_good (s := { s with now := q.time }) names read free good
    exact exec_refused .loadStation q s _ served (own excluded)
  case loadAccepted =>
    intro c served read free good admitted
    obtain ⟨-, own⟩ := ownLoadStation_good (s := { s with now := q.time }) names read free good
    exact exec_accepted .loadStation q s _ _ served (own admitted)
  case clearBusy => exact fun served busy => exec_refused .clearStation q s _ served (ownClearStation_busy names busy)
  case clearQuarantined =>
    intro served free quarantined
    obtain ⟨own, -⟩ := ownClearStation_free (s := { s with now := q.time }) names free
    exact exec_refused .clearStation q s _ served (own quarantined)
  case clearAccepted =>
    intro served free released
    obtain ⟨-, own⟩ := ownClearStation_free (s := { s with now := q.time }) names free
    exact exec_accepted .clearStation q s _ _ served (own released)
  case policyAbove =>
    exact fun served above => exec_refused .loadAreaPolicy q s _ served (ownLoadAreaPolicy_above names above)
  case policyUnused =>
    exact fun served area unused =>
      exec_refused .loadAreaPolicy q s _ served (ownLoadAreaPolicy_unused names area unused)
  case policyUnlisted =>
    exact fun served area used unlisted =>
      exec_refused .loadAreaPolicy q s _ served (ownLoadAreaPolicy_unlisted names area used unlisted)
  case policyAccepted =>
    exact fun a u r served used area unlisted read =>
      exec_accepted .loadAreaPolicy q s _ _ served (ownLoadAreaPolicy_listed names used area unlisted read)
  case countersCleared =>
    exact fun served => exec_accepted .clearCounters q s _ _ served (ownClearCounters_accepted names)

end Sys2Proof.Machine

/-! PROOFS. The recipe banks (R41 to R48, R51 to R53, R89): what the checks on a record, a key and a slot number say, the
cases of each owning rule, and the image at a swap. -/

namespace Sys2Proof.Machine

/-! ### Slot numbers -/

theorem finOfNat_eq_some {n v : Nat} {i : Fin n} (names : v = i.val) : finOfNat n v = some i := by
  subst names
  exact dif_pos i.isLt

theorem finOfNat_eq_none {n v : Nat} (above : n ≤ v) : finOfNat n v = none := dif_neg (by omega)

/-- Two octets hold every slot number, so the number written is the one read. -/
theorem beNat_take_slotOctets (i : Fin 512) : beNat ((beOctets 2 i.val).take 2) = i.val := by
  rw [List.take_of_length_le (by simp), beNat_beOctets]
  omega

/-! ### Records and keys -/

theorem multipleOf_iff_onGrid (r : ParamRecord) (v : Int) : multipleOf r.quantum (v - r.chgLo) = true ↔ onGrid r v := by
  rw [multipleOf, decide_eq_true_eq, ← Int.dvd_iff_emod_eq_zero, dvd_iff_exists_eq_mul_left, onGrid]
  exact exists_congr fun k => sub_eq_iff_eq_add'

theorem multipleOf_natCast_iff (q n : Nat) : multipleOf q n = true ↔ q ∣ n := by
  rw [multipleOf, decide_eq_true_eq, ← Int.dvd_iff_emod_eq_zero, Int.natCast_dvd_natCast]

/-- The consistency checks of R43 are what `RecordSound` asks beyond the listed values of the quantum and the criticality. -/
theorem recordSound_iff (r : ParamRecord) :
    RecordSound r ↔ 1 ≤ r.quantum ∧ (1 ≤ r.criticality ∧ r.criticality ≤ 7) ∧ recordConsistent r = true := by
  simp only [recordConsistent, Bool.and_eq_true, decide_eq_true_eq, multipleOf_iff_onGrid, multipleOf_natCast_iff,
    and_assoc]
  constructor
  · rintro ⟨quantum, ⟨chgLo, runLo, runHi, chgHi⟩, ⟨low, mid, high⟩, ⟨gridLo, gridHi, gridTop⟩,
      steps, least, most⟩
    exact ⟨quantum, least, most, runLo, runHi, chgLo, chgHi, low, mid, high, gridLo, gridHi, gridTop, steps⟩
  · rintro ⟨quantum, least, most, runLo, runHi, chgLo, chgHi, low, mid, high, gridLo, gridHi, gridTop, steps⟩
    exact ⟨quantum, ⟨chgLo, runLo, runHi, chgHi⟩, ⟨low, mid, high⟩, ⟨gridLo, gridHi, gridTop⟩, steps, least, most⟩

/-- With slot `i` emptied, a record still in the bank stands in another slot. -/
theorem getElem_set_none_eq_some_iff (b : Bank) (i j : Fin 512) (r : ParamRecord) :
    (b.set i none)[j] = some r ↔ j ≠ i ∧ b[j] = some r := by
  simp only [Fin.getElem_fin, Vector.getElem_set, Fin.val_inj, eq_comm (a := i)]
  split <;> simp_all

theorem keyTaken_iff (b : Bank) (i : Fin 512) (k : Key) :
    keyTaken b i k = true ↔ ∃ (j : Fin 512) (r : ParamRecord), j ≠ i ∧ b[j] = some r ∧ r.key = k := by
  rw [keyTaken]
  split
  next j found =>
    obtain ⟨r, holds, key⟩ := findSlot_some _ _ _ found
    obtain ⟨other, holds⟩ := (getElem_set_none_eq_some_iff b i j r).mp holds
    exact iff_of_true rfl ⟨j, r, other, holds, key⟩
  next missing =>
    refine iff_of_false Bool.false_ne_true ?_
    rintro ⟨j, r, other, holds, key⟩
    exact findSlot_none _ _ missing j r ((getElem_set_none_eq_some_iff b i j r).mpr ⟨other, holds⟩) key

/-! ### The owning rules of the banks and of one image slot -/

/-- The requests whose first two argument octets name a slot. -/
theorem ownSlotRule_above {q : Request} {s : State} (above : 511 < beNat ((argsOf q).take 2)) :
    ownLoadParameter q s = refuse .badValue s ∧ ownClearParameter q s = refuse .badValue s ∧
      ownForgetImage q s = refuse .badValue s := by
  have noSlot : finOfNat 512 (natAt (argsOf q) 0 2) = none := finOfNat_eq_none above
  simp only [ownLoadParameter, ownClearParameter, ownForgetImage, noSlot, and_self]

section
variable {i : Fin 512} {q : Request} {s : State} (names : beNat ((argsOf q).take 2) = i.val)
include names

theorem slot_named : finOfNat 512 (natAt (argsOf q) 0 2) = some i := finOfNat_eq_some names

theorem ownLoadParameter_accepted {r : ParamRecord} (read : readParamRecord ((argsOf q).drop 2) = some r)
    (sound : RecordSound r)
    (fresh : ∀ (j : Fin 512) (r' : ParamRecord), j ≠ i → s.settings.stagedBank[j] = some r' → r'.key ≠ r.key) :
    ownLoadParameter q s = accept [] (s.setStaged (s.settings.stagedBank.set i (some r))) := by
  obtain ⟨-, -, consistent⟩ := (recordSound_iff r).mp sound
  have free : ¬ keyTaken s.settings.stagedBank i r.key = true := by
    rw [keyTaken_iff]
    rintro ⟨j, r', other, holds, key⟩
    exact fresh j r' other holds key
  simp only [ownLoadParameter, slot_named names, read, consistent, Bool.true_eq_false, if_false, if_neg free]

theorem ownClearParameter_accepted :
    ownClearParameter q s = accept [] (s.setStaged (s.settings.stagedBank.set i none)) := by
  simp only [ownClearParameter, slot_named names]

theorem ownForgetImage_accepted (settled : ∀ c v r, s.image[i] ≠ .pending c v r) :
    ownForgetImage q s = accept [] (s.setImage i .unknown) := by
  simp only [ownForgetImage, slot_named names]
  cases slot : s.image[i] with
  | pending c v r => exact absurd slot (settled c v r)
  | unknown => rfl
  | known c => rfl

theorem ownForgetImage_pending (pending : ∃ c v r, s.image[i] = .pending c v r) :
    ownForgetImage q s = refuse .busy s := by
  obtain ⟨c, v, r, slot⟩ := pending
  simp only [ownForgetImage, slot_named names, slot]

end

/-- Settles O16: each clause is one case of an owning rule; the bank a staged write replaces is the one not designated. -/
theorem stagedClassRequestsAct : Obligations.StagedClassRequestsAct := by
  unfold Obligations.StagedClassRequestsAct
  intro q s put
  have setStaged_eq (b : Bank) : State.setStaged b { s with now := q.time } = put b := by
    cases active : s.settings.active <;> simp only [put, State.setStaged, Settings.setBank, BankId.other, active]
  have staged (k : RequestKind) (b : Bank) (served : Served k q s)
      (own : ownRule k q { s with now := q.time } = accept [] (State.setStaged b { s with now := q.time })) :
      exec (k.command q) s = .next ((put b).replied s k q .ok []) :=
    exec_accepted k q s _ _ served (own.trans (congrArg (accept []) (setStaged_eq b)))
  have named {i : Fin 512} (args : argsOf q = beOctets 2 i.val) : beNat ((argsOf q).take 2) = i.val :=
    args ▸ beNat_take_slotOctets i
  refine ⟨?loaded, ?cleared, ?clearAbove, ?forgetAbove, ?copied, ?marked, ?forgotten⟩
  case loaded =>
    exact fun i r served names read sound fresh =>
      staged .loadParameter _ served (ownLoadParameter_accepted names read sound fresh)
  case cleared =>
    exact fun i served args => staged .clearParameter _ served (ownClearParameter_accepted (named args))
  case clearAbove =>
    intro served above
    obtain ⟨-, own, -⟩ := ownSlotRule_above (s := { s with now := q.time }) above
    exact exec_refused .clearParameter q s _ served own
  case forgetAbove =>
    intro served above
    obtain ⟨-, -, own⟩ := ownSlotRule_above (s := { s with now := q.time }) above
    exact exec_refused .forgetImage q s _ served own
  case copied => exact fun served => staged .copyActiveToStaged _ served rfl
  case marked => exact fun served => exec_accepted .markStagedReady q s _ _ served rfl
  case forgotten =>
    exact fun i served args =>
      ⟨fun settled => exec_accepted .forgetImage q s _ _ served (ownForgetImage_accepted (named args) settled),
        fun pending => exec_refused .forgetImage q s _ served (ownForgetImage_pending (named args) pending)⟩

/-! ### The swap -/

theorem carrySlot_of_key_eq {a b : ParamRecord} (same : a.key = b.key) (v : ImageSlot) :
    carrySlot (some a) (some b) v = v := if_pos same

theorem carrySlot_eq_unknown {old new : Option ParamRecord}
    (unequal : ¬ ∃ a b : ParamRecord, old = some a ∧ new = some b ∧ a.key = b.key) (v : ImageSlot) :
    carrySlot old new v = .unknown := by
  match old, new with
  | some a, some b => exact if_neg fun same => unequal ⟨a, b, rfl, rfl, same⟩
  | some _, none => rfl
  | none, some _ => rfl
  | none, none => rfl

theorem swap_image_getElem (s : State) (i : Fin 512) :
    s.swap.image[i] = carrySlot s.settings.activeBank[i] s.settings.stagedBank[i] s.image[i] :=
  getElem_tabulate (fun j : Fin 512 => carrySlot s.settings.activeBank[j] s.settings.stagedBank[j] s.image[j]) i i.isLt

theorem ownActivateStaged_busy {s : State} (q : Request) (inFlight : s.txns ≠ []) :
    ownActivateStaged q s = refuse .busy s := if_pos inFlight

/-- With the transaction table empty, the window and the staged-ready mark decide (R51). -/
theorem ownActivateStaged_idle {s : State} (q : Request) (idle : s.txns = []) :
    (s.window = .shut → s.settings.stagedReady = true → ownActivateStaged q s = accept [] s.swap) ∧
    ((s.window ≠ .shut ∨ s.settings.stagedReady = false) → ownActivateStaged q s = refuse .wrongState s) := by
  rw [ownActivateStaged, if_neg (not_not_intro idle), ← ite_or]
  refine ⟨fun shut ready => if_neg ?_, fun wrong => if_pos wrong⟩
  simp [shut, ready]

/-- Settles O18: the image clauses are those of `carrySlot`, the request's clauses the cases of its owning rule. -/
theorem activateStagedSwaps : Obligations.ActivateStagedSwaps := by
  unfold Obligations.ActivateStagedSwaps
  refine ⟨fun s => ⟨rfl, ?kept, ?dropped⟩, fun q s served => ⟨?swapped, ?busy, ?wrongState⟩⟩
  case kept =>
    intro i a b old new same
    rw [swap_image_getElem, old, new, carrySlot_of_key_eq same]
  case dropped =>
    intro i unequal
    rw [swap_image_getElem, carrySlot_eq_unknown unequal]
  case swapped =>
    intro idle shut ready
    obtain ⟨own, -⟩ := ownActivateStaged_idle (s := { s with now := q.time }) q idle
    exact exec_accepted .activateStaged q s _ _ served (own shut ready)
  case busy => exact fun inFlight => exec_refused .activateStaged q s _ served (ownActivateStaged_busy q inFlight)
  case wrongState =>
    intro idle wrong
    obtain ⟨-, own⟩ := ownActivateStaged_idle (s := { s with now := q.time }) q idle
    exact exec_refused .activateStaged q s _ served (own wrong)

end Sys2Proof.Machine

/-! PROOFS. Stage 2 of the vetting computation (R62): the gaps of a record's grid, the grid point below a value, and the rows
of the table that `quantise` follows. -/

namespace Sys2Proof.Machine

/-! ### The grid -/

theorem onGrid_add_quantum {r : ParamRecord} {g : Int} (grid : onGrid r g) : onGrid r (g + r.quantum) := by
  obtain ⟨k, rfl⟩ := grid
  exact ⟨k + 1, by ring⟩

/-- Between a grid point and the next there is none. -/
theorem onGrid_le_or_add_quantum_le {r : ParamRecord} {a b : Int} (gridA : onGrid r a) (gridB : onGrid r b) :
    b ≤ a ∨ a + r.quantum ≤ b := by
  obtain ⟨j, rfl⟩ := gridA
  obtain ⟨k, rfl⟩ := gridB
  have step : (0 : Int) ≤ r.quantum := Int.natCast_nonneg _
  rcases le_or_gt k j with low | high
  · exact .inl (by simpa using Int.mul_le_mul_of_nonneg_right low step)
  · have next : (j + 1) * (r.quantum : Int) ≤ k * r.quantum := Int.mul_le_mul_of_nonneg_right high step
    exact .inr (by linarith)

/-! ### The candidates of R62: `g1`, the highest grid point not above `v`, and the next above it -/

section
variable {r : ParamRecord} {v g1 : Int} (grid : onGrid r g1) (below : g1 ≤ v) (above : v < g1 + r.quantum)
include grid below above

theorem onGrid_iff_eq_of_floor : onGrid r v ↔ v = g1 := by
  refine ⟨fun gridV => ?_, fun same => same ▸ grid⟩
  have gap := onGrid_le_or_add_quantum_le grid gridV
  omega

/-- The remainder and the lower candidate as `quantise` computes them. -/
theorem quotient_and_remainder_of_floor :
    (v - r.chgLo) % (r.quantum : Int) = v - g1 ∧ r.chgLo + (v - r.chgLo) / (r.quantum : Int) * r.quantum = g1 := by
  obtain ⟨k, rfl⟩ := grid
  have split : v - r.chgLo = (v - (r.chgLo + k * r.quantum)) + r.quantum * k := by ring
  have remainder : (v - r.chgLo) % (r.quantum : Int) = v - (r.chgLo + k * r.quantum) := by
    rw [split, Int.add_mul_emod_self_left, Int.emod_eq_of_lt (by omega) (by omega)]
  have whole := Int.mul_ediv_add_emod (v - r.chgLo) r.quantum
  exact ⟨remainder, by linarith⟩

/-! ### The rows of the table -/

theorem quantise_of_lt_half (ref : Option Int) (low : 2 * (v - g1) < r.quantum) : quantise r ref v = g1 := by
  obtain ⟨remainder, floor⟩ := quotient_and_remainder_of_floor grid below above
  simp only [quantise, remainder, floor, if_pos low]

theorem quantise_of_half_lt (ref : Option Int) (high : r.quantum < 2 * (v - g1)) :
    quantise r ref v = g1 + r.quantum := by
  obtain ⟨remainder, floor⟩ := quotient_and_remainder_of_floor grid below above
  simp only [quantise, remainder, floor, if_neg high.not_gt, if_pos high]

theorem quantise_of_tie_none (tie : 2 * (v - g1) = r.quantum) : quantise r none v = g1 := by
  obtain ⟨remainder, floor⟩ := quotient_and_remainder_of_floor grid below above
  simp only [quantise, remainder, floor, if_neg tie.not_lt, if_neg tie.not_gt]

theorem quantise_of_tie_some (c : Int) (tie : 2 * (v - g1) = r.quantum) :
    quantise r (some c) v =
      if (g1 + r.quantum - c).natAbs < (g1 - c).natAbs then g1 + r.quantum else g1 := by
  obtain ⟨remainder, floor⟩ := quotient_and_remainder_of_floor grid below above
  simp only [quantise, remainder, floor, if_neg tie.not_lt, if_neg tie.not_gt]

/-- Whatever the reference, the result is the lower candidate or the upper, and that one is not the farther from the value. -/
theorem quantise_eq_nearer_candidate (ref : Option Int) :
    (quantise r ref v = g1 ∧ 2 * (v - g1) ≤ r.quantum) ∨
      (quantise r ref v = g1 + r.quantum ∧ (r.quantum : Int) ≤ 2 * (v - g1)) := by
  rcases lt_trichotomy (2 * (v - g1)) (r.quantum : Int) with low | tie | high
  · exact .inl ⟨quantise_of_lt_half grid below above ref low, low.le⟩
  · cases ref with
    | none => exact .inl ⟨quantise_of_tie_none grid below above tie, tie.le⟩
    | some c =>
      rw [quantise_of_tie_some grid below above c tie]
      split
      · exact .inr ⟨rfl, tie.ge⟩
      · exact .inl ⟨rfl, tie.le⟩
  · exact .inr ⟨quantise_of_half_lt grid below above ref high, high.le⟩

/-! ### What the result keeps -/

theorem onGrid_quantise (ref : Option Int) : onGrid r (quantise r ref v) := by
  rcases quantise_eq_nearer_candidate grid below above ref with ⟨result, -⟩ | ⟨result, -⟩
  · exact result ▸ grid
  · exact result ▸ onGrid_add_quantum grid

theorem quantise_ne_iff_not_onGrid (ref : Option Int) : quantise r ref v ≠ v ↔ ¬ onGrid r v := by
  rw [onGrid_iff_eq_of_floor grid below above]
  rcases quantise_eq_nearer_candidate grid below above ref with ⟨result, half⟩ | ⟨result, half⟩ <;> omega

theorem candidates_between_of_not_onGrid {lo hi : Int} (gridLo : onGrid r lo) (gridHi : onGrid r hi) (least : lo ≤ v)
    (most : v ≤ hi) (off : ¬ onGrid r v) : lo ≤ g1 ∧ g1 + r.quantum ≤ hi := by
  rw [onGrid_iff_eq_of_floor grid below above] at off
  have gapLo := onGrid_le_or_add_quantum_le grid gridLo
  have gapHi := onGrid_le_or_add_quantum_le grid gridHi
  omega

theorem quantise_between (ref : Option Int) {lo hi : Int} (gridLo : onGrid r lo) (gridHi : onGrid r hi) (least : lo ≤ v)
    (most : v ≤ hi) : lo ≤ quantise r ref v ∧ quantise r ref v ≤ hi := by
  by_cases on : onGrid r v
  · have same : quantise r ref v = v :=
      by_contra fun alters => (quantise_ne_iff_not_onGrid grid below above ref).mp alters on
    rw [same]
    exact ⟨least, most⟩
  · obtain ⟨low, high⟩ := candidates_between_of_not_onGrid grid below above gridLo gridHi least most on
    rcases quantise_eq_nearer_candidate grid below above ref with ⟨result, -⟩ | ⟨result, -⟩ <;> omega

theorem quantise_nearest (ref : Option Int) {g : Int} (gridG : onGrid r g) :
    (v - quantise r ref v).natAbs ≤ (v - g).natAbs := by
  have gap := onGrid_le_or_add_quantum_le grid gridG
  rcases quantise_eq_nearer_candidate grid below above ref with ⟨result, half⟩ | ⟨result, half⟩ <;> omega

end

/-- Settles O26: the rows of R62's table by name, and the rest because the result is the nearer of two neighbouring grid
points. -/
theorem quantiseGoesToNearestGridPoint : Obligations.QuantiseGoesToNearestGridPoint := by
  unfold Obligations.QuantiseGoesToNearestGridPoint
  intro r ref v g1 _ grid below above
  refine ⟨fun tie => by omega, quantise_of_lt_half grid below above ref, quantise_of_half_lt grid below above ref,
    ?tieAbsent, ?tieUp, ?tieDown, onGrid_quantise grid below above ref,
    quantise_ne_iff_not_onGrid grid below above ref, ?between, fun g => quantise_nearest grid below above ref⟩
  case tieAbsent =>
    rintro tie rfl
    exact quantise_of_tie_none grid below above tie
  case tieUp =>
    rintro c tie rfl nearer
    exact (quantise_of_tie_some grid below above c tie).trans (if_pos nearer)
  case tieDown =>
    rintro c tie rfl notFarther
    exact (quantise_of_tie_some grid below above c tie).trans (if_neg notFarther.not_gt)
  case between =>
    intro lo hi gridLo gridHi least most
    obtain ⟨low, high⟩ := quantise_between grid below above ref gridLo gridHi least most
    exact ⟨low, high, candidates_between_of_not_onGrid grid below above gridLo gridHi least most⟩

end Sys2Proof.Machine

/-! PROOFS. The value image: what becomes of a slot released (R80) or taught a value (R83, R84), and the image once a list of
slots is released. -/

namespace Sys2Proof.Machine

/-! ### One slot -/

section
variable (c : Option Int) (v : Int) (t : TxnRef)

theorem ImageSlot.release_success : (ImageSlot.pending c v t).release t .success = .known v := if_pos rfl

theorem ImageSlot.release_failure : (ImageSlot.pending c v t).release t .failure = ofCommitted c := if_pos rfl

theorem ImageSlot.release_discard : (ImageSlot.pending c v t).release t .discard = ofCommitted c := if_pos rfl

theorem ImageSlot.release_timeout : (ImageSlot.pending c v t).release t .timeout = .unknown := if_pos rfl

end

/-- A slot held by another transaction keeps its values. -/
theorem ImageSlot.release_pending_other {t u : TxnRef} (other : u ≠ t) (c : Option Int) (v : Int) (o : TxnOutcome) :
    (ImageSlot.pending c v u).release t o = .pending c v u := if_neg other

theorem ofCommitted_release (c : Option Int) (t : TxnRef) (o : TxnOutcome) :
    (ofCommitted c).release t o = ofCommitted c := by
  cases c <;> rfl

/-- A second release for the same ending does nothing: so it does not matter if a list names a slot twice. -/
theorem ImageSlot.release_release (x : ImageSlot) (t : TxnRef) (o : TxnOutcome) :
    (x.release t o).release t o = x.release t o := by
  cases x with
  | unknown => rfl
  | known c => rfl
  | pending c v u =>
    by_cases held : u = t
    · subst held
      cases o with
      | success => rw [release_success]; rfl
      | failure => rw [release_failure, ofCommitted_release]
      | discard => rw [release_discard, ofCommitted_release]
      | timeout => rw [release_timeout]; rfl
    · rw [release_pending_other held, release_pending_other held]

theorem ImageSlot.learn_known_same (v : Int) : (ImageSlot.known v).learn v = (.known v, none) := if_pos rfl

theorem ImageSlot.learn_known_drift {c v : Int} (differs : v ≠ c) :
    (ImageSlot.known c).learn v = (.known v, some ⟨some c, false⟩) := if_neg differs

/-- Neither the value before the write nor the value written is drift (R84). -/
theorem ImageSlot.learn_pending_expected {v p : Int} {c : Option Int} (expected : v = p ∨ c = some v) (t : TxnRef) :
    (ImageSlot.pending c p t).learn v = (.pending c p t, none) := if_pos expected

theorem ImageSlot.learn_pending_drift {v p : Int} {c : Option Int} (notPending : v ≠ p) (notCommitted : c ≠ some v)
    (t : TxnRef) : (ImageSlot.pending c p t).learn v = (.pending (some v) p t, some ⟨c, true⟩) :=
  if_neg (not_or.mpr ⟨notPending, notCommitted⟩)

/-! ### The image -/

theorem setImage_image_getElem (i j : Fin 512) (v : ImageSlot) (s : State) :
    (s.setImage i v).image[j] = if i = j then v else s.image[j] := by
  simp [Vector.getElem_set, Fin.ext_iff]

theorem releaseSlots_image_getElem (t : TxnRef) (o : TxnOutcome) (slots : List (Fin 512)) (s : State) (i : Fin 512) :
    (s.releaseSlots t o slots).image[i] = if i ∈ slots then s.image[i].release t o else s.image[i] := by
  induction slots generalizing s with
  | nil => rfl
  | cons j rest ih =>
    have first : s.releaseSlots t o (j :: rest) = (s.setImage j (s.image[j].release t o)).releaseSlots t o rest := rfl
    rw [first, ih, setImage_image_getElem]
    by_cases same : j = i
    · subst same
      simp [ImageSlot.release_release]
    · simp [same, Ne.symm same]

/-- Settles O37: the release of a list acts slot by slot because a second release of one slot does nothing; the rest are the
rows of the slot's own tables. -/
theorem imageSlotTransitions : Obligations.ImageSlotTransitions := by
  unfold Obligations.ImageSlotTransitions
  refine ⟨fun s x out => ⟨releaseSlots_image x.ref out x.slots s, fun i => ⟨?listed, ?unlisted⟩⟩,
    fun c v p o t u => ?slot⟩
  case listed =>
    intro member
    rw [releaseSlots_image_getElem, if_pos member]
  case unlisted =>
    intro absent
    rw [releaseSlots_image_getElem, if_neg absent]
  case slot =>
    exact ⟨rfl, rfl, ImageSlot.release_success o p t, ImageSlot.release_failure (some c) p t,
      ImageSlot.release_discard (some c) p t, ImageSlot.release_failure none p t, ImageSlot.release_discard none p t,
      ImageSlot.release_timeout o p t, fun other => ImageSlot.release_pending_other other o p, rfl,
      ImageSlot.learn_known_same v, ImageSlot.learn_known_drift,
      fun expected => ImageSlot.learn_pending_expected expected t,
      fun notPending notCommitted => ImageSlot.learn_pending_drift notPending notCommitted t⟩

end Sys2Proof.Machine

/-! PROOFS. The end-of-changeover check (R127): its two counts taken slot by slot, its events against the state it is
made in, and when the examination of DRAINING (R126) makes it. -/

namespace Sys2Proof.Machine

/-! ### The counts -/

/-- How many slots have a record in the active bank that names station `n` and pass `p` with their image slot. -/
def State.slotCount (s : State) (n : Fin 32) (p : ParamRecord → ImageSlot → Bool) : Nat :=
  (List.finRange 512).countP fun i =>
    s.settings.activeBank[i].any fun r => decide (r.key.station = n) && p r s.image[i]

theorem countP_eq_slotCount {s : State} {n : Fin 32} {p : ParamRecord → ImageSlot → Bool} {q : Fin 512 → Bool}
    (counts : ∀ i, q i = s.settings.activeBank[i].any fun r => decide (r.key.station = n) && p r s.image[i]) :
    (List.finRange 512).countP q = s.slotCount n p := by
  rw [funext counts, State.slotCount]

theorem zip_toList_eq_map_finRange {α β : Type} {n : Nat} (a : Vector α n) (b : Vector β n) :
    a.toList.zip b.toList = (List.finRange n).map fun i => (a[i], b[i]) :=
  List.ext_getElem (by simp) fun i _ _ => by simp

theorem countP_zip_toList {α β : Type} {n : Nat} (a : Vector α n) (b : Vector β n) (p : α × β → Bool) :
    (a.toList.zip b.toList).countP p = (List.finRange n).countP fun i => p (a[i], b[i]) := by
  rw [zip_toList_eq_map_finRange, List.countP_map]
  rfl

theorem length_filter_stationSlots (s : State) (n : Fin 32) (p : ParamRecord × ImageSlot → Bool) :
    ((stationSlots s n).filter p).length = s.slotCount n fun r v => p (r, v) := by
  unfold stationSlots
  rw [← List.countP_eq_length_filter, List.countP_filterMap, countP_zip_toList]
  refine countP_eq_slotCount fun i => ?_
  cases s.settings.activeBank[i] with
  | none => simp
  | some r => by_cases named : r.key.station = n <;> simp [named]

/-- A KNOWN slot outside the record's run envelope. -/
def outsideRun (r : ParamRecord) : ImageSlot → Bool
  | .known c => decide (c < r.runLo) || decide (r.runHi < c)
  | .unknown | .pending _ _ _ => false

theorem outsideCount_eq_slotCount (s : State) (n : Fin 32) : outsideCount s n = s.slotCount n outsideRun :=
  length_filter_stationSlots s n _

theorem unknownCount_eq_slotCount (s : State) (n : Fin 32) :
    unknownCount s n = s.slotCount n fun _ v => decide (v = .unknown) := by
  refine (length_filter_stationSlots s n _).trans (congrArg (s.slotCount n) ?_)
  funext _ v
  cases v <;> rfl

/-! ### The events -/

/-- The check of entry `n` by what `s` holds, its event raised in `u`. -/
def raiseIncomplete (s u : State) (n : Fin 32) : State :=
  if (s.station n).inUse = true ∧ (s.station n).config.member = true ∧
      ¬ (outsideCount s n = 0 ∧ unknownCount s n = 0) then
    u.raise (incompleteEvent n (outsideCount s n) (unknownCount s n))
  else u

theorem raise_incompleteEvent (u : State) (n : Fin 32) (outside unknown : Nat) :
    u.raise (incompleteEvent n outside unknown) = u.takeRaised (incompleteEvent n outside unknown) :=
  raise_below_seven _ u (by simp [incompleteEvent])

theorem checkStation_eq_raiseIncomplete (s : State) (n : Fin 32) : checkStation s n = raiseIncomplete s s n := by
  unfold checkStation raiseIncomplete
  rw [raise_incompleteEvent]

theorem raiseIncomplete_onlyEvents (s u : State) (n : Fin 32) : OnlyEvents u (raiseIncomplete s u n) := by
  unfold raiseIncomplete
  split
  · exact raise_onlyEvents _ u
  · exact OnlyEvents.refl u

theorem OnlyEvents.counts_eq {s u : State} (events : OnlyEvents s u) (n : Fin 32) :
    outsideCount u n = outsideCount s n ∧ unknownCount u n = unknownCount s n := by
  unfold outsideCount unknownCount stationSlots
  rw [events.settings, events.image]
  exact ⟨rfl, rfl⟩

theorem OnlyEvents.station_eq {s u : State} (events : OnlyEvents s u) (n : Fin 32) : u.station n = s.station n := by
  unfold State.station
  rw [events.settings]

/-- The events raised so far change nothing an entry is checked by. -/
theorem OnlyEvents.raiseIncomplete_eq {s u : State} (events : OnlyEvents s u) (n : Fin 32) :
    raiseIncomplete u u n = raiseIncomplete s u n := by
  obtain ⟨outside, unknown⟩ := events.counts_eq n
  unfold raiseIncomplete
  rw [outside, unknown, events.station_eq]

theorem foldl_checkStation_eq_of_onlyEvents {s : State} (entries : List (Fin 32)) {u : State} (events : OnlyEvents s u) :
    entries.foldl checkStation u = entries.foldl (raiseIncomplete s) u := by
  induction entries generalizing u with
  | nil => rfl
  | cons n rest ih =>
    have first : checkStation u n = raiseIncomplete s u n :=
      (checkStation_eq_raiseIncomplete u n).trans (events.raiseIncomplete_eq n)
    rw [List.foldl_cons, List.foldl_cons, first, ih (events.trans (raiseIncomplete_onlyEvents s u n))]

theorem changeoverCheck_eq_foldl_raiseIncomplete (s : State) :
    s.changeoverCheck = (List.finRange 32).foldl (raiseIncomplete s) s :=
  foldl_checkStation_eq_of_onlyEvents _ (OnlyEvents.refl s)

/-! ### The examination of DRAINING -/

theorem changeInFlight_eq_zero_iff (s : State) : s.changeInFlight = 0 ↔ ∀ t ∈ s.txns, t.mode ≠ .change := by
  simp [State.changeInFlight]

theorem OnlyEvents.startHoldOff_eq {s u : State} (events : OnlyEvents s u) : u.startHoldOff = { u with
    window := if s.settings.holdOff = 0 then .shut else .holdOff (s.now + Config.seconds s.settings.holdOff) } := by
  rw [← events.settings, ← events.now]
  rfl

theorem examineDraining_ends {s : State} (draining : s.window = .draining) (free : s.changeInFlight = 0) :
    s.examineDraining = s.changeoverCheck.startHoldOff := if_pos ⟨draining, free⟩

theorem examineDraining_waits {s : State} (waiting : s.changeInFlight ≠ 0) : s.examineDraining = s :=
  if_neg fun ended => waiting ended.2

theorem examineDraining_other {s : State} (other : s.window ≠ .draining) : s.examineDraining = s :=
  if_neg fun ended => other ended.1

/-- Settles O23: an event raised by the check alters nothing a later entry is checked by, so every entry is judged by the
state the check is made in. -/
theorem changeoverCheckCounts : Obligations.ChangeoverCheckCounts := by
  unfold Obligations.ChangeoverCheckCounts
  intro s slots outside unknown
  obtain ⟨events, -⟩ := changeoverCheck_onlyEvents s
  have outside_eq (n : Fin 32) : outside n = outsideCount s n := by
    rw [outsideCount_eq_slotCount]
    refine countP_eq_slotCount fun i => ?_
    cases s.settings.activeBank[i] with
    | none => rfl
    | some r => cases s.image[i] <;> rfl
  have unknown_eq (n : Fin 32) : unknown n = unknownCount s n := by
    rw [unknownCount_eq_slotCount]
    refine countP_eq_slotCount fun i => ?_
    cases s.settings.activeBank[i] <;> rfl
  refine ⟨?check, events.image, events.settings, events.counters, ?ends, ?waits, examineDraining_other⟩
  case check =>
    simp only [outside_eq, unknown_eq]
    exact changeoverCheck_eq_foldl_raiseIncomplete s
  case ends =>
    intro draining allRun
    have free : s.changeInFlight = 0 := (changeInFlight_eq_zero_iff s).2 fun t listed => by simp [allRun t listed]
    rw [examineDraining_ends draining free, events.startHoldOff_eq]
  case waits =>
    rintro - ⟨t, listed, change⟩
    exact examineDraining_waits fun free => (changeInFlight_eq_zero_iff s).1 free t listed change

end Sys2Proof.Machine

/-! PROOFS. The moves of the part: every command is a run of a few elementary moves, so what each move keeps every command
keeps. -/

namespace Sys2Proof.Machine

/-! ### The moves -/

/-- `u` is `s` but for what no invariant of a step reads: the time, the pins and candidates, the accepted RESTART, the
part's two counters, and of each port its counters and the model's own time of loss. -/
def Quiet (s u : State) : Prop :=
  u = { s with
    now := u.now
    keyA := u.keyA
    keyB := u.keyB
    lstop := u.lstop
    restartPending := u.restartPending
    malformed := u.malformed
    unmatched := u.unmatched
    key := ⟨s.key.taken, u.key.candidate⟩
    lineIn := u.lineIn
    portP := { s.portP with arrival := u.portP.arrival, egress := u.portP.egress, lostAt := u.portP.lostAt }
    portL := { s.portL with arrival := u.portL.arrival, egress := u.portL.egress, lostAt := u.portL.lostAt } }

/-- What a request may make of the working settings: under the lock with the key in RUN no table, no station put into
SERVICE, and every consistency the settings had. -/
structure Configures (s : State) (st : Settings) : Prop where
  tables : (s.settings.lock = .unlocked ∨ s.keyPosition ≠ .run) ∨ (st.lock = .locked ∧ sameTables st s.settings)
  service : ∀ n : Fin 32, st.stations[n].state = .service →
    s.settings.stations[n].state = .service ∧ (s.settings.stations[n].inUse = true → st.stations[n].inUse = true)
  banks : BankSound s.settings.bankA ∧ BankSound s.settings.bankB → BankSound st.bankA ∧ BankSound st.bankB
  stations : stationsDistinct s.settings → stationsDistinct st
  ranges : RangesGood s.identity.address s.settings → RangesGood s.identity.address st

/-- Events may be raised: the part runs, or loads its settings with a window that is not SHUT, which no run shows. -/
def State.mayRaise (s : State) : Prop := s.phase = .running ∨ (s.phase.loading = true ∧ s.window ≠ .shut)

/-- What an admitted tracked write brings with it (R69, R70, R72): a new QUEUED transaction of free slots, and room. -/
structure Admits (s : State) (t : Txn) (listed : List Listed) : Prop where
  running : s.phase = .running
  queued : t.state = .queued
  slots : t.slots = listed.map (·.slot)
  nonempty : listed ≠ []
  bounded : listed.length ≤ 8
  distinct : t.slots.Nodup
  free : ∀ i ∈ t.slots, ∀ c v r, s.image[i] ≠ .pending c v r
  fresh : ∀ u ∈ s.txns, u.ref ≠ t.ref
  room : s.txns.length < 64
  accepted : s.portL.accepts .ordinary = true

/-- The state once a write is admitted and its frame handed over for port L. -/
def State.admitted (t : Txn) (listed : List Listed) (octets : List Octet) (s : State) : State :=
  (({ s with txns := s.txns ++ [t] }).holdSlots t.ref listed).handOver .L .ordinary
    (forwardedFrame octets (some t.ref))

/-- The port once a loss of link was reported and its queues flushed. -/
def State.linkLost (p : Port) (s : State) : State := s.setPort p (({ s.port p with phyUp := false }).flush s.now)

/-- The table once the marked frame `f` has been sent. -/
def State.frameSent (p : Port) (f : QueuedFrame) (after : PortState) (s : State) : State :=
  match f.txn with
  | some r => (s.setPort p after).txnSent r
  | none => s.setPort p after

/-- The taken key code changes, SERVICE ends and an OPEN window closes with the position they need (R115). -/
def State.keyMoved (code : KeyCode) (s : State) : State :=
  { s with
    key := ⟨code, none⟩
    settings := if s.keyPosition = .service ∧ code.position ≠ .service then s.leaveService.settings else s.settings
    window :=
      if s.keyPosition = .changeover ∧ code.position ≠ .changeover ∧ s.window.isOpen then .draining else s.window }

/-- A frame received may be handed over for port `p`: the command is an arrival on the other port. -/
def forwardsTo (c : Instr) (p : Port) : Prop := ∃ t whole octets, c = .frameArrival t p.other whole octets

/-- The moves of the queues, the transaction table and the image. -/
inductive TableMove (c : Instr) (s : State) : State → Prop
  | hands (p : Port) (k : QueueKind) (f : QueuedFrame) (running : s.phase = .running)
      (unmarked : f.txn = none) (waiting : f.inTransmission = false) (origin : f.origin = .forwarded → forwardsTo c p) :
      TableMove c s (s.handOver p k f)
  | admits (t : Txn) (listed : List Listed) (octets : List Octet) (arrival : forwardsTo c .L)
      (h : Admits s t listed) : TableMove c s (s.admitted t listed octets)
  | ends (t : Txn) (o : TxnOutcome) (listed : t ∈ s.txns ∨ ∀ u ∈ s.txns, u.ref ≠ t.ref)
      (unmarked : t.isQueued = false ∨ ∀ f ∈ s.portL.ordinary, f.txn = none) :
      TableMove c s ((s.removeTxn t.ref).releaseSlots t.ref o t.slots)
  | sends (p : Port) (f : QueuedFrame) (after : PortState) (running : s.phase = .running)
      (sent : (s.port p).complete = some (f, after)) : TableMove c s ((s.frameSent p f after).selectOn p)
  | losesLink (p : Port) (t : Nat) (o : LinkOrder) (down : c = .linkDown t p o) : TableMove c s (s.linkLost p)
  | phy (p : Port) (up : Bool) (same : s.phase.alive = true → (s.port p).up = up) : TableMove c s (s.setPhy p up)
  | linkUp (p : Port) : TableMove c s (s.setPort p { s.port p with phyUp := true, up := true, lostAt := none })
  | image (i : Fin 512) (v : ImageSlot)
      (same : ∀ r, (∃ a b, v = .pending a b r) ↔ ∃ a b, s.image[i] = .pending a b r) : TableMove c s (s.setImage i v)

/-- The elementary moves command `c` may be made of. -/
inductive Move (c : Instr) (s : State) : State → Prop
  | quiet {u : State} (h : Quiet s u) : Move c s u
  | tables {u : State} (h : TableMove c s u) : Move c s u
  | raised (r : Raised) (h : s.mayRaise) : Move c s (s.takeRaised r)
  | shuts (w : Window) (was : s.window ≠ .shut) (closed : w.isOpen = false) : Move c s { s with window := w }
  | opens (o d : Nat) (running : s.phase = .running)
      (key : s.keyPosition = .changeover ∨ s.window.isOpen = true) (length : d ≤ o + Config.seconds 7200) :
      Move c s { s with window := .opened o d }
  | counts (n : Fin 32) (cs : StationCounters)
      (grows : s.counters[n].admitted.toNat ≤ cs.admitted.toNat ∧ s.counters[n].clamped.toNat ≤ cs.clamped.toNat ∧
        s.counters[n].refused.toNat ≤ cs.refused.toNat ∧ s.counters[n].drift.toNat ≤ cs.drift.toNat) :
      Move c s (s.setCounters n cs)
  | clears (n : Fin 32) (asked : mayCarry .clearCounters c = true) : Move c s (s.setCounters n zeroStationCounters)
  | warmStarts (alive : s.phase.alive = true) : Move c s s.beginWarmStart
  | keyTaken (code : KeyCode) (t : Nat) (running : s.phase = .running) (taken : c = .keyCodeTaken t) :
      Move c s (s.keyMoved code)
  | tripEnds : Move c s s.endTrip
  | saves : Move c s { s with save := .saving s.settings.stored, store := s.store.invalidated }
  | saved (copy : Settings) (saving : s.save = .saving copy) :
      Move c s { s with store := Store.written copy, save := .idle }
  | saveFails : Move c s { s with save := .failed, store := s.store.invalidated }
  | resets (all : clearsAll c = true) : Move c s s.holdReset
  | coldStarts (all : clearsAll c = true) : Move c s s.beginColdStart
  | losesPower (all : clearsAll c = true) : Move c s s.losePower
  | samples (t : Nat) (loading : s.phase.loading = true) (completes : c = .settingsLoadComplete t) :
      Move c s s.sampleInputs
  | stationState (n : Fin 32) (v : StationState)
      (service : v = .service → ((s.station n).inUse = true ∧ s.keyPosition = .service) ∧ s.phase = .running) :
      Move c s (s.setStationState n v)
  | swaps (idle : s.txns = []) (allowed : s.settings.lock = .unlocked ∨ s.keyPosition ≠ .run) : Move c s s.swap
  | configures (st : Settings) (h : Configures s st) (mask : st.alarmMask = s.settings.alarmMask) :
      Move c s { s with settings := st }
  | controls (st : Settings) (h : Configures s st) : Move c s ({ s with settings := st }).reAlarm
  | takes (e : EventRecord) (rest : List EventRecord) (asked : mayCarry .takeEvent c = true)
      (taken : takeHighest s.events = some (e, rest)) : Move c s ({ s with events := rest }).reAlarm

/-- A run of moves of one command. -/
abbrev Moves (c : Instr) : State → State → Prop := Relation.ReflTransGen (Move c)

theorem Move.one {c : Instr} {s u : State} (h : Move c s u) : Moves c s u := .single h

/-- `u` is `s` but for the queues, the transaction table and the image. -/
def OnlyTables (s u : State) : Prop := u = { s with portP := u.portP, portL := u.portL, txns := u.txns, image := u.image }

theorem OnlyPorts.toTables {s u : State} (ports : OnlyPorts s u) : OnlyTables s u := by
  unfold OnlyPorts OnlyTables at *
  rw [ports]

theorem setPort_onlyPorts (p : Port) (ps : PortState) (s : State) : OnlyPorts s (s.setPort p ps) := by
  cases p <;> rfl

theorem TableMove.onlyTables {c : Instr} {s u : State} (m : TableMove c s u) : OnlyTables s u := by
  cases m with
  | hands p k f => exact (handOver_onlyPorts p k f s).toTables
  | admits t listed octets =>
    unfold State.admitted
    rw [holdSlots_image]
    rfl
  | ends t o =>
    rw [releaseSlots_image]
    rfl
  | sends p f after => unfold State.frameSent; split <;> cases p <;> rfl
  | losesLink p => exact (setPort_onlyPorts p _ s).toTables
  | phy p up => exact (setPort_onlyPorts p _ s).toTables
  | linkUp p => exact (setPort_onlyPorts p _ s).toTables
  | image i v => rfl

/-- What every move of a command keeps its runs of moves keep. -/
theorem Moves.keep {c : Instr} {P : State → Prop} (step : ∀ s u, Move c s u → P s → P u) {s u : State}
    (run : Moves c s u) (h : P s) : P u := by
  induction run with
  | refl => exact h
  | tail _ last ih => exact step _ _ last ih

/-! ### The shared operations as moves -/

section
variable {c : Instr}

theorem mayRaise_alive {s : State} (h : s.mayRaise) : s.phase.alive = true := by
  rcases h with running | ⟨loading, -⟩
  · rw [running]; rfl
  · cases phase : s.phase <;> simp_all [Phase.loading, Phase.alive]

/-- A part that is alive may raise events unless it loads with its window SHUT. -/
theorem mayRaise_of_alive {s : State} (alive : s.phase.alive = true) (window : s.window ≠ .shut) : s.mayRaise := by
  cases phase : s.phase <;> simp_all [Phase.alive, Phase.loading, State.mayRaise]

theorem OnlyEvents.mayRaise {s u : State} (events : OnlyEvents s u) (window : u.window = s.window) (h : s.mayRaise) :
    u.mayRaise := by
  unfold State.mayRaise
  rw [events.phase, window]
  exact h

theorem takeRaised_moves (r : Raised) {s : State} (h : s.mayRaise) : Moves c s (s.takeRaised r) := (Move.raised r h).one

theorem changeoverCheck_moves {s : State} (h : s.mayRaise) : Moves c s s.changeoverCheck := by
  have fold : ∀ (entries : List (Fin 32)) (u : State), u.mayRaise → Moves c u (entries.foldl checkStation u) := by
    intro entries
    induction entries with
    | nil => exact fun _ _ => .refl
    | cons n rest ih =>
      intro u hu
      have one : Moves c u (checkStation u n) ∧ (checkStation u n).mayRaise := by
        unfold checkStation
        dsimp only
        split
        · obtain ⟨events, window⟩ := takeRaised_onlyEvents (incompleteEvent n (outsideCount u n) (unknownCount u n)) u
          exact ⟨takeRaised_moves _ hu, events.mayRaise window hu⟩
        · exact ⟨.refl, hu⟩
      exact one.1.trans (ih _ one.2)
  exact fold _ s h

theorem examineDraining_moves {s : State} (alive : s.phase.alive = true) : Moves c s s.examineDraining := by
  unfold State.examineDraining
  split
  · next ended =>
    have open_ : s.window ≠ .shut := by rw [ended.1]; exact Window.noConfusion
    refine (changeoverCheck_moves (mayRaise_of_alive alive open_)).tail (.shuts _ ?_ ?_)
    · rw [(changeoverCheck_onlyEvents s).2]; exact open_
    · split <;> rfl
  · exact .refl

theorem closeWindow_moves (cause : CloseCause) {s : State} (alive : s.phase.alive = true) :
    Moves c s (s.closeWindow cause) := by
  unfold State.closeWindow
  split
  · next o d opened =>
    have closing : Moves c s { s with window := .draining } :=
      (Move.shuts .draining (by rw [opened]; exact Window.noConfusion) rfl).one
    have mayRaise : ({ s with window := .draining } : State).mayRaise := mayRaise_of_alive alive Window.noConfusion
    refine closing.trans ((takeRaised_moves _ mayRaise).trans (examineDraining_moves ?_))
    rw [(takeRaised_onlyEvents _ _).1.phase]
    exact alive
  all_goals exact .refl

theorem report_moves (t : Trigger) (n : Option (Fin 32)) {s : State} (alive : s.phase.alive = true) :
    Moves c s (s.report t n) := by
  unfold State.report
  split
  · exact closeWindow_moves _ alive
  · exact .refl

theorem raise_moves (r : Raised) {s : State} (h : s.mayRaise) : Moves c s (s.raise r) := by
  unfold State.raise
  dsimp only
  split
  · refine (takeRaised_moves r h).trans (report_moves _ _ ?_)
    rw [(takeRaised_onlyEvents r s).1.phase]
    exact mayRaise_alive h
  · exact takeRaised_moves r h

theorem reportEnding_moves (o : TxnOutcome) (n : Fin 32) {s : State} (alive : s.phase.alive = true) :
    Moves c s (s.reportEnding o n) := by
  unfold State.reportEnding
  split
  · split
    · exact report_moves _ _ alive
    · exact .refl
  · exact examineDraining_moves alive
  all_goals exact .refl

/-- While the part runs every event may be raised. -/
theorem raise_moves_running (r : Raised) {s : State} (running : s.phase = .running) : Moves c s (s.raise r) :=
  raise_moves r (.inl running)

theorem alive_of_running {s : State} (running : s.phase = .running) : s.phase.alive = true := by rw [running]; rfl

theorem clock_moves (t : Nat) (s : State) : Moves c s (s.clock t) := by
  refine (Move.quiet ?_).one
  unfold State.clock
  split <;> rfl

/-! ### Transactions -/

theorem releaseSlots_onlyImage (t : TxnRef) (o : TxnOutcome) (slots : List (Fin 512)) (s : State) :
    (s.releaseSlots t o slots).phase = s.phase ∧ (s.releaseSlots t o slots).window = s.window ∧
      (s.releaseSlots t o slots).txns = s.txns ∧ (s.releaseSlots t o slots).portL = s.portL := by
  rw [releaseSlots_image]
  exact ⟨rfl, rfl, rfl, rfl⟩

/-- A discarded transaction ends without an event. -/
theorem endQuietly_discard (t : Txn) (status : Octet) (s : State) :
    s.endQuietly t .discard status = (s.removeTxn t.ref).releaseSlots t.ref .discard t.slots := rfl

theorem findSent_some {txns : List Txn} {r : TxnRef} {t : Txn} (found : findSent txns r = some t) :
    t ∈ txns ∧ t.ref = r ∧ t.isQueued = false := by
  have member := List.mem_of_find?_eq_some found
  have fits := List.find?_some found
  rw [Bool.and_eq_true, decide_eq_true_eq] at fits
  refine ⟨member, fits.1, ?_⟩
  cases state : t.state with
  | queued => rw [state] at fits; cases fits.2
  | sent d => simp [Txn.isQueued, state]

theorem endQuietly_moves (t : Txn) (o : TxnOutcome) (status : Octet) {s : State} (running : s.phase = .running)
    (member : t ∈ s.txns) (sent : t.isQueued = false) :
    Moves c s (s.endQuietly t o status) ∧ (s.endQuietly t o status).phase = .running := by
  have ending : Moves c s ((s.removeTxn t.ref).releaseSlots t.ref o t.slots) := (Move.tables (.ends t o (.inl member) (.inl sent))).one
  have phase := (releaseSlots_onlyImage t.ref o t.slots (s.removeTxn t.ref)).1
  unfold State.endQuietly
  dsimp only
  split
  · exact ⟨ending, phase.trans running⟩
  · exact ⟨ending.trans (raise_moves_running _ (phase.trans running)), (raise_onlyEvents _ _).phase.trans (phase.trans running)⟩

theorem endTxn_moves (t : Txn) (o : TxnOutcome) (status : Octet) {s : State} (running : s.phase = .running)
    (member : t ∈ s.txns) (sent : t.isQueued = false) :
    Moves c s (s.endTxn t o status) ∧ (s.endTxn t o status).phase = .running := by
  obtain ⟨moves, still⟩ := endQuietly_moves (c := c) t o status running member sent
  unfold State.endTxn
  dsimp only
  split
  · exact ⟨moves, still⟩
  · exact ⟨moves.trans (reportEnding_moves _ _ (alive_of_running still)), (reportEnding_onlyEvents _ _ _).phase.trans still⟩

/-- The discards of a loss of link, of transactions that are in the table or whose reference has left it. -/
theorem discards_moves (gone : List Txn) {s : State} (unmarked : ∀ f ∈ s.portL.ordinary, f.txn = none)
    (listed : ∀ t ∈ gone, t ∈ s.txns ∨ ∀ u ∈ s.txns, u.ref ≠ t.ref) :
    Moves c s (gone.foldl (fun s t => s.endQuietly t .discard 0) s) ∧
      (gone.foldl (fun s t => s.endQuietly t .discard 0) s).phase = s.phase := by
  induction gone generalizing s with
  | nil => exact ⟨.refl, rfl⟩
  | cons t rest ih =>
    obtain ⟨phase, -, txns, portL⟩ := releaseSlots_onlyImage t.ref .discard t.slots (s.removeTxn t.ref)
    have first : Moves c s (s.endQuietly t .discard 0) :=
      (Move.tables (.ends t .discard (listed t List.mem_cons_self) (.inr unmarked))).one
    have later : ∀ u ∈ rest, u ∈ (s.endQuietly t .discard 0).txns ∨ ∀ x ∈ (s.endQuietly t .discard 0).txns, x.ref ≠ u.ref := by
      intro u member
      simp only [endQuietly_discard, txns, removeTxn_txns, List.mem_filter, decide_eq_true_eq]
      by_cases same : u.ref = t.ref
      · exact .inr fun x kept => same ▸ kept.2
      · exact (listed u (List.mem_cons_of_mem _ member)).imp (fun here => ⟨here, same⟩) fun absent x kept => absent x kept.1
    obtain ⟨moves, same⟩ := ih (s := s.endQuietly t .discard 0) (by rw [endQuietly_discard, portL]; exact unmarked) later
    exact ⟨first.trans moves, same.trans phase⟩

theorem discardQueued_moves {s : State} (alive : s.phase.alive = true) (unmarked : ∀ f ∈ s.portL.ordinary, f.txn = none) :
    Moves c s s.discardQueued ∧ s.discardQueued.phase = s.phase := by
  obtain ⟨moves, phase⟩ := discards_moves (c := c) (queuedTxns s) unmarked fun t member => .inl (List.mem_filter.mp member).1
  unfold State.discardQueued
  dsimp only
  split
  · exact ⟨moves.trans (examineDraining_moves (by rw [phase]; exact alive)), (examineDraining_onlyEvents _).phase.trans phase⟩
  · exact ⟨moves, phase⟩

/-! ### Frames and replies -/

theorem handOver_moves (p : Port) (k : QueueKind) {f : QueuedFrame} {s : State} (running : s.phase = .running)
    (unmarked : f.txn = none) (waiting : f.inTransmission = false) (origin : f.origin = .forwarded → forwardsTo c p) :
    Moves c s (s.handOver p k f) :=
  (Move.tables (.hands p k f running unmarked waiting origin)).one

theorem forward_moves {p : Port} (arrival : forwardsTo c p) (k : QueueKind) (o : List Octet) {s : State}
    (running : s.phase = .running) : Moves c s (s.forward p k o) := handOver_moves p k running rfl rfl fun _ => arrival

theorem sendReply_moves (p : Port) (o : List Octet) (restart : Bool) {s : State} (running : s.phase = .running) :
    Moves c s (s.sendReply p o restart) := by
  have handed : Moves c s (s.handOver p .ordinary (partFrame o restart)) := handOver_moves p _ running rfl rfl Origin.noConfusion
  unfold State.sendReply
  dsimp only
  split
  · exact handed.tail (.warmStarts (by rw [handOver_phase, running]; rfl))
  · exact handed

end

end Sys2Proof.Machine

/-! PROOFS. The owning rules as moves: what each request may make of the working settings, and which moves an owning rule
is made of. -/

namespace Sys2Proof.Machine

/-! ### What the common checks have found -/

theorem commonRefusal_keyRefusal {k : RequestKind} {q : Request} {s : State} (passed : commonRefusal k q s = none) :
    k.privilege.keyRefusal s.keyPosition s.settings.lock = none := by
  unfold commonRefusal at passed
  split_ifs at passed
  all_goals
    split at passed
    · cases passed
    · assumption

/-- The lock or the key lets a request change a table or a bank (R164). -/
def TablesOpen (s : State) : Prop := s.settings.lock = .unlocked ∨ s.keyPosition ≠ .run

theorem tablesOpen_of_passed {k : RequestKind} {q : Request} {s : State} (passed : commonRefusal k q s = none)
    (guarded : k.privilege ≠ .open_ ∧ k.privilege ≠ .manager) : TablesOpen s := by
  have key := commonRefusal_keyRefusal passed
  unfold TablesOpen
  cases privilege : k.privilege <;> rw [privilege] at key guarded <;>
    simp_all only [Privilege.keyRefusal, ne_eq, not_true_eq_false, false_and, and_false]
  case table => split_ifs at key with free; exact free.imp id fun service => by simp [service]
  case staged =>
    split_ifs at key with free
    exact free.imp id fun other => by rcases other with h | h <;> simp [h]
  all_goals
    split_ifs at key with service
    exact .inr (by simp [service])

/-! ### Stations -/

/-- Every entry in use was in use before, under the same address, mode and number. -/
def SameAddresses (a b : Vector StationEntry 32) : Prop :=
  ∀ n : Fin 32, a[n].inUse = true → b[n].inUse = true ∧ a[n].config.address = b[n].config.address ∧
    a[n].config.mode = b[n].config.mode ∧ a[n].config.embedded = b[n].config.embedded

theorem SameAddresses.distinct {a b : Settings} (same : SameAddresses a.stations b.stations) (h : stationsDistinct b) :
    stationsDistinct a := by
  intro i j differ usedI usedJ address
  obtain ⟨oldI, addressI, modeI, numberI⟩ := same i usedI
  obtain ⟨oldJ, addressJ, modeJ, numberJ⟩ := same j usedJ
  rw [modeI, modeJ, numberI, numberJ]
  exact h i j differ oldI oldJ (by rw [← addressI, ← addressJ]; exact address)

theorem SameAddresses.addresses {own : Mac} {a b : Settings} (same : SameAddresses a.stations b.stations)
    (h : RangesGood own b) (n : Fin 32) (used : a.stations[n].inUse = true) :
    isGroup a.stations[n].config.address = false ∧ a.stations[n].config.address ≠ own := by
  obtain ⟨old, address, -⟩ := same n used
  rw [address]
  exact h.addresses n old

theorem set_getElem_fin {α : Type} {m : Nat} (v : Vector α m) (i j : Fin m) (x : α) :
    (v.set i x)[j] = if j = i then x else v[j] := by
  simp only [Fin.getElem_fin, Vector.getElem_set, Fin.val_inj, eq_comm (a := i)]

theorem station_eq (s : State) (n : Fin 32) : s.station n = s.settings.stations[n] := rfl

/-- A table of stations that keeps the addresses in use, and puts no entry into SERVICE, is a change of settings. -/
theorem configures_stations {s : State} (tables : TablesOpen s) (v : Vector StationEntry 32)
    (service : ∀ n : Fin 32, v[n].state = .service → s.settings.stations[n].state = .service ∧
      (s.settings.stations[n].inUse = true → v[n].inUse = true))
    (distinct : stationsDistinct s.settings → stationsDistinct { s.settings with stations := v })
    (addresses : (∀ n : Fin 32, s.settings.stations[n].inUse = true →
      isGroup s.settings.stations[n].config.address = false ∧ s.settings.stations[n].config.address ≠ s.identity.address) →
      ∀ n : Fin 32, v[n].inUse = true → isGroup v[n].config.address = false ∧ v[n].config.address ≠ s.identity.address) :
    Configures s { s.settings with stations := v } where
  tables := .inl tables
  service := service
  banks := id
  stations := distinct
  ranges h := { h with addresses := addresses h.addresses }

theorem configures_setStation {s : State} (tables : TablesOpen s) {n : Fin 32} {e : StationEntry} (normal : e.state = .service →
      (s.station n).state = .service ∧ ((s.station n).inUse = true → e.inUse = true))
    (same : e.inUse = true → (s.station n).inUse = true ∧ e.config = (s.station n).config) :
    Configures s (s.settings.setStation n e) := by
  have addresses : SameAddresses (s.settings.setStation n e).stations s.settings.stations := by
    intro m
    simp only [Settings.setStation, set_getElem_fin]
    split
    · next h =>
      subst h
      intro used
      obtain ⟨old, config⟩ := same used
      rw [config]
      exact ⟨old, rfl, rfl, rfl⟩
    · exact fun used => ⟨used, rfl, rfl, rfl⟩
  refine configures_stations tables _ (fun m => ?_) addresses.distinct fun h m used => ?_
  · rw [set_getElem_fin]
    split
    · next h => subst h; exact normal
    · exact fun service => ⟨service, id⟩
  · obtain ⟨old, address, -⟩ := addresses m used
    exact address ▸ h m old

theorem stateAfterLoad_ne_service (e : StationEntry) : stateAfterLoad e ≠ .service := by
  unfold stateAfterLoad
  split <;> exact StationState.noConfusion

/-- A configuration that R24 and R25 allow may be loaded. -/
theorem configures_loadStation {s : State} (tables : TablesOpen s) {n : Fin 32} {c : StationConfig}
    (address : ¬ (isGroup c.address = true ∨ c.address = s.identity.address)) (admitted : ¬ ConfigExcluded s n c) :
    Configures s (s.settings.setStation n
      { s.station n with inUse := true, config := c, state := stateAfterLoad (s.station n) }) := by
  refine configures_stations tables _ (fun m => ?_) (fun distinct i j differ => ?_) fun h m => ?_
  · rw [set_getElem_fin]
    split
    · exact fun service => absurd service (stateAfterLoad_ne_service _)
    · exact fun service => ⟨service, id⟩
  · have apart : ∀ m, m ≠ n → s.settings.stations[m].inUse = true → s.settings.stations[m].config.address = c.address →
        s.settings.stations[m].config.mode = .embedded ∧ c.mode = .embedded ∧
          s.settings.stations[m].config.embedded ≠ c.embedded := fun m other used same => by
      by_contra clash
      exact admitted ⟨m, other, used, same, clash⟩
    simp only [set_getElem_fin]
    split <;> split
    · next hi hj => exact absurd (hi.trans hj.symm) differ
    · next hi hj =>
      intro _ used same
      obtain ⟨modeJ, modeI, number⟩ := apart j hj used same.symm
      exact ⟨modeI, modeJ, number.symm⟩
    · next hi hj => exact fun used _ same => apart i hi used same
    · exact distinct i j differ
  · rw [set_getElem_fin]
    split
    · rw [not_or, Bool.not_eq_true] at address
      exact fun _ => address
    · exact h m

/-! ### Profiles -/

theorem fieldFits_iff (offset : Word16) (width : Nat) : fieldFits offset width = true ↔ offset.toNat + width ≤ 1500 :=
  decide_eq_true_iff

theorem optFieldFits_iff {α : Type} (f : Option α) (offset : α → Word16) (width : Nat) :
    optFieldFits (f.map offset) width = true ↔ ∀ d, f = some d → (offset d).toNat + width ≤ 1500 := by
  cases f with
  | none => simp [optFieldFits]
  | some d => simp [optFieldFits, fieldFits_iff]

theorem tagGood_iff (p : Profile) : tagGood p = true ↔
    (∀ t, p.tagField = some t → t.offset.toNat + t.width.toNat ≤ 1500 ∧ (t.width = 1 ∨ t.width = 2)) ∧
      ((∃ e ∈ p.functionMap, e.cls = .write) → p.tagField ≠ none) := by
  cases field : p.tagField with
  | none => simp [tagGood, field]
  | some t => simp [tagGood, field, fieldFits_iff, and_comm]

/-- The checks of an in-use record are what `ProfileSound` asks beyond the listed byte order (R7 check 4). -/
theorem profileSound_iff (p : Profile) : ProfileSound p ↔ p.byteOrder ≠ none ∧ profileGood p = true := by
  have station : optFieldFits p.stationField 1 = true ↔ ∀ w, p.stationField = some w → w.toNat + 1 ≤ 1500 := by
    simpa using optFieldFits_iff p.stationField id 1
  simp only [profileGood, profileTypeGood, lengthsGood, Bool.and_eq_true, Bool.or_eq_true, decide_eq_true_eq, Bool.not_eq_true',
    decide_eq_false_iff_not, optFieldFits_iff, station, fieldFits_iff, tagGood_iff, and_assoc]
  constructor
  · rintro ⟨order, ⟨least, notVlan, notFlow⟩, ⟨low, mid, high⟩, ⟨disc, stationFits, tag⟩, ⟨f, a, i, co, v, st⟩, width, timeout,
      codes, writes⟩
    exact ⟨order, least, notVlan, notFlow, mid, low, high, disc, stationFits, f, a, i, co, v, st, width, timeout, codes, tag, writes⟩
  · rintro ⟨order, least, notVlan, notFlow, mid, low, high, disc, stationFits, f, a, i, co, v, st, width, timeout, codes, tag,
      writes⟩
    exact ⟨order, ⟨least, notVlan, notFlow⟩, ⟨low, mid, high⟩, ⟨disc, stationFits, tag⟩, ⟨f, a, i, co, v, st⟩, width, timeout,
      codes, writes⟩

theorem readProfileRecord_byteOrder {o : List Octet} {p : Profile} (read : readProfileRecord o = some p) :
    p.byteOrder ≠ none := by
  simp only [readProfileRecord, Option.bind_eq_bind, Option.bind_eq_some_iff, Option.pure_def, Option.some.injEq] at read
  obtain ⟨_, -, _, -, _, -, _, -, _, -, _, -, _, -, rfl⟩ := read
  exact Option.some_ne_none _

theorem profilesClash_iff (a b : Profile) : profilesClash a b = true ↔
    a.inUse = true ∧ b.inUse = true ∧ a.frameType = b.frameType ∧ a.discriminator = b.discriminator := by
  simp [profilesClash, and_assoc]

/-- A profile record that R7 admits may be loaded. -/
theorem configures_loadProfile {s : State} (tables : TablesOpen s) {n : Fin 4} {p : Profile} (order : p.byteOrder ≠ none)
    (good : ¬ (p.inUse = true ∧ profileGood p = false))
    (differs : ∀ i : Fin 4, i ≠ n → ¬ profilesClash p s.settings.profiles[i] = true) :
    Configures s { s.settings with profiles := s.settings.profiles.set n p } where
  tables := .inl tables
  service _ service := ⟨service, id⟩
  banks := id
  stations := id
  ranges h :=
    { h with
      profiles := fun i => by
        simp only [set_getElem_fin]
        split
        · intro used
          exact (profileSound_iff p).mpr ⟨order, by simpa [used] using good⟩
        · exact h.profiles i
      profilesDiffer := fun i j differ => by
        simp only [profilesClash_iff] at differs
        simp only [set_getElem_fin]
        split <;> split
        · next hi hj => exact absurd (hi.trans hj.symm) differ
        · next hi hj => exact fun used usedJ type same => differs j hj ⟨used, usedJ, type, same⟩
        · next hi hj => exact fun usedI used type same => differs i hi ⟨used, usedI, type.symm, same.symm⟩
        · exact h.profilesDiffer i j differ }

/-! ### Banks -/

theorem bankSound_stagedBank {st : Settings} (h : BankSound st.bankA ∧ BankSound st.bankB) (b : BankId) :
    BankSound (st.bank b) := by
  cases b
  · exact h.1
  · exact h.2

/-- A sound staged bank may replace the staged bank. -/
theorem configures_setStaged {s : State} (tables : TablesOpen s) {b : Bank}
    (sound : BankSound s.settings.bankA ∧ BankSound s.settings.bankB → BankSound b) :
    Configures s (State.setStaged b s).settings := by
  cases active : s.settings.active <;> simp only [State.setStaged, active, BankId.other, Settings.setBank]
  · exact ⟨.inl tables, fun _ service => ⟨service, id⟩, fun h => ⟨h.1, sound h⟩, id, fun h => { h with }⟩
  · exact ⟨.inl tables, fun _ service => ⟨service, id⟩, fun h => ⟨sound h, h.2⟩, id, fun h => { h with }⟩

theorem bankSound_set_none {b : Bank} (h : BankSound b) (i : Fin 512) : BankSound (b.set i none) where
  records j r holds := h.records j r ((getElem_set_none_eq_some_iff b i j r).mp holds).2
  keys j k r r' holds holds' := h.keys j k r r' ((getElem_set_none_eq_some_iff b i j r).mp holds).2
    ((getElem_set_none_eq_some_iff b i k r').mp holds').2

theorem bankSound_set_some {b : Bank} (h : BankSound b) {i : Fin 512} {r : ParamRecord} (sound : RecordSound r)
    (free : ¬ keyTaken b i r.key = true) : BankSound (b.set i (some r)) := by
  have apart : ∀ (j : Fin 512) (r' : ParamRecord), j ≠ i → b[j] = some r' → r'.key ≠ r.key := fun j r' other holds same =>
    free ((keyTaken_iff b i r.key).mpr ⟨j, r', other, holds, same⟩)
  refine ⟨fun j r' => ?_, fun j k x y => ?_⟩
  · rw [set_getElem_fin]
    split
    · exact fun holds => Option.some.inj holds ▸ sound
    · exact h.records j r'
  · rw [set_getElem_fin, set_getElem_fin]
    split <;> split
    · next hj hk => exact fun _ _ _ => hj.trans hk.symm
    · next hj hk => exact fun hx hy same => absurd (same.symm.trans (by rw [Option.some.inj hx])) (apart k y hk hy)
    · next hj hk => exact fun hx hy same => absurd (same.trans (by rw [Option.some.inj hy])) (apart j x hj hx)
    · exact h.keys j k x y

theorem readParamRecord_ranges {o : List Octet} {r : ParamRecord} (read : readParamRecord o = some r) :
    1 ≤ r.quantum ∧ 1 ≤ r.criticality ∧ r.criticality ≤ 7 := by
  simp only [readParamRecord, Option.bind_eq_bind, Option.bind_eq_some_iff, Option.pure_def, Option.ite_none_right_eq_some,
    Option.some.injEq] at read
  obtain ⟨_, -, _, -, _, -, _, -, _, -, ranges, rfl⟩ := read
  exact ranges

/-! ### The other settings -/

theorem configures_lock {s : State} (l : Lock) (tables : TablesOpen s ∨ l = .locked) :
    Configures s { s.settings with lock := l } where
  tables := tables.imp id fun locked => ⟨locked, rfl, fun _ => rfl⟩
  service _ service := ⟨service, id⟩
  banks := id
  stations := id
  ranges h := { h with }

theorem configures_markReady {s : State} (tables : TablesOpen s) :
    Configures s { s.settings with stagedReady := true } where
  tables := .inl tables
  service _ service := ⟨service, id⟩
  banks := id
  stations := id
  ranges h := { h with }

theorem reduceOption_nodup_vector {v : Vector (Option Mac) 4} (nodup : v.toList.reduceOption.Nodup) {i j : Fin 4} {m : Mac}
    (hi : v[i] = some m) (hj : v[j] = some m) : j = i := by
  have apart := List.pairwise_iff_getElem.mp (List.pairwise_filterMap.mp nodup)
  have differ : ∀ a b : Fin 4, a < b → v[a] = some m → v[b] ≠ some m := fun a b less ha hb =>
    apart a b (by simp) (by simp) less m (by simpa using ha) m (by simpa using hb) rfl
  rcases lt_trichotomy i j with less | same | more
  · exact absurd hj (differ i j less hi)
  · exact same.symm
  · exact absurd hi (differ j i more hj)

/-- A manager list that R162 admits may be set. -/
theorem configures_managers {s : State} (tables : TablesOpen s) {v : Vector (Option Mac) 4}
    (good : ¬ v.toList.any (badManager s.identity.address) = true) (once : ¬ duplicateManagers v.toList = true) :
    Configures s { s.settings with managers := v } where
  tables := .inl tables
  service _ service := ⟨service, id⟩
  banks := id
  stations := id
  ranges h :=
    { h with
      managers := fun i m holds => by
        have individual : ¬ badManager s.identity.address (some m) = true := fun bad =>
          good (List.any_eq_true.mpr ⟨some m, by rw [← holds]; exact Vector.mem_toList_iff.mpr (Vector.getElem_mem _), bad⟩)
        simp only [badManager, Bool.or_eq_true, decide_eq_true_eq, not_or, Bool.not_eq_true] at individual
        refine ⟨individual.1, individual.2, fun j same => ?_⟩
        exact reduceOption_nodup_vector (by simpa [duplicateManagers] using once) holds same }

theorem clampShare_bounds (n : Nat) : 1 ≤ clampShare n ∧ clampShare n ≤ 16 := by
  unfold clampShare Config.minShare Config.maxShare
  omega

theorem badManagementType_iff (t : Word16) :
    badManagementType t = true ↔ t.toNat < 0x0600 ∨ t = 0x8100#16 ∨ t = 0x8808#16 := by
  simp only [badManagementType, Bool.or_eq_true, decide_eq_true_eq, or_assoc]
  rfl

theorem configures_portSettings {s : State} (tables : TablesOpen s) (p l : ForeignPolicy) (x y : Nat) {t : Word16}
    (good : ¬ badManagementType t = true) :
    Configures s
      { s.settings with plant := ⟨p, clampShare x⟩, line := ⟨l, clampShare y⟩, managementType := t } where
  tables := .inl tables
  service _ service := ⟨service, id⟩
  banks := id
  stations := id
  ranges h :=
    { h with
      shares := ⟨(clampShare_bounds x).1, (clampShare_bounds x).2, (clampShare_bounds y).1, (clampShare_bounds y).2⟩
      managementType := by
        rw [badManagementType_iff] at good
        push Not at good
        exact good }

theorem configures_windowSettings {s : State} (tables : TablesOpen s) {hold : Nat} (t : TriggerSet)
    (short : ¬ Config.maxHoldOffSeconds < hold) : Configures s { s.settings with holdOff := hold, triggers := t } where
  tables := .inl tables
  service _ service := ⟨service, id⟩
  banks := id
  stations := id
  ranges h := { h with holdOff := by simpa [Config.maxHoldOffSeconds] using short }

/-- A promotion slot never names a kind that may not be promoted (R154). -/
theorem promotionOf_some {o : Octet} {x : Option EventKind} (read : promotionOf o = some x) (k : EventKind)
    (named : x = some k) : k ≠ .envelopeBreach ∧ k ≠ .storeInvalid ∧ k ≠ .forced := by
  subst named
  unfold promotionOf at read
  split at read
  · cases read
  · split at read <;> cases read <;> decide

theorem noticeOf_some {own : Mac} {o : List Octet} {x : Option NoticeDestination} (read : noticeOf own o = some x)
    (d : NoticeDestination) (set : x = some d) : d.address ≠ own := by
  subst set
  unfold noticeOf at read
  split at read
  · cases read
  · split at read
    · cases read
    · next elsewhere => cases read; exact elsewhere
  all_goals cases read

theorem readEventControl_some {own : Mac} {o : List Octet} {x : EventControl} (read : readEventControl own o = some x) :
    x.alarmMask ≤ 6 ∧ (∀ k, x.promotionA = some k ∨ x.promotionB = some k →
      k ≠ .envelopeBreach ∧ k ≠ .storeInvalid ∧ k ≠ .forced) ∧ ∀ d, x.notice = some d → d.address ≠ own := by
  simp only [readEventControl, Option.bind_eq_bind, Option.bind_eq_some_iff, Option.pure_def, Option.some.injEq] at read
  obtain ⟨_, -, _, -, a, hA, b, hB, n, hN, rfl⟩ := read
  exact ⟨Nat.min_le_left _ _, fun k named => named.elim (promotionOf_some hA k) (promotionOf_some hB k),
    fun d set => noticeOf_some hN d set⟩

theorem setMasks_getElem (st : Vector StationEntry 32) (enters : Vector Bool 32) (n : Fin 32) :
    (setMasks st enters)[n] = { st[n] with config := { st[n].config with enters := enters[n] } } := by
  simp [setMasks]

theorem configures_eventControl {s : State} (tables : TablesOpen s) {o : List Octet} {x : EventControl}
    (read : readEventControl s.identity.address o = some x) (differ : ¬ (x.promotionA = x.promotionB ∧ x.promotionA ≠ none)) :
    Configures s (s.settings.withEventControl x) := by
  obtain ⟨mask, promotion, notice⟩ := readEventControl_some read
  have same : SameAddresses (s.settings.withEventControl x).stations s.settings.stations := by
    intro n
    rw [Settings.withEventControl, setMasks_getElem]
    exact fun used => ⟨used, rfl, rfl, rfl⟩
  refine ⟨.inl tables, fun n => ?_, id, same.distinct, fun h => ?_⟩
  · rw [Settings.withEventControl, setMasks_getElem]
    exact fun service => ⟨service, id⟩
  · exact { h with addresses := same.addresses h, mask := mask, promotion := promotion, notice := notice,
                   slotsDiffer := fun equal => by_contra fun set => differ ⟨equal, set⟩ }

/-! ### The owning rules -/

section
variable {c : Instr}

/-- The answer's state is reached by moves, and the part is in the phase it was in. -/
def AnswerMoves (c : Instr) (s : State) (a : Answer) : Prop := Moves c s a.state ∧ a.state.phase = s.phase

theorem answerMoves_refuse (code : ResultCode) (s : State) : AnswerMoves c s (refuse code s) := ⟨.refl, rfl⟩

theorem answerMoves_read (result : List Octet) (s : State) : AnswerMoves c s (accept result s) := ⟨.refl, rfl⟩

theorem answerMoves_accept {result : List Octet} {s u : State} (m : Move c s u) (phase : u.phase = s.phase) :
    AnswerMoves c s (accept result u) := ⟨m.one, phase⟩

variable {q : Request} {s : State}

theorem ownLoadProfile_moves (tables : TablesOpen s) : AnswerMoves c s (ownLoadProfile q s) := by
  unfold ownLoadProfile
  split
  · exact answerMoves_refuse _ _
  · split
    · exact answerMoves_refuse _ _
    · split
      · exact answerMoves_refuse _ _
      · next n _ _ p read =>
        split_ifs with bad clash
        · exact answerMoves_refuse _ _
        · exact answerMoves_refuse _ _
        · refine answerMoves_accept (.configures _ (configures_loadProfile tables (readProfileRecord_byteOrder read) bad ?_) rfl) rfl
          intro i other same
          exact clash (List.any_eq_true.mpr ⟨i, List.mem_finRange i, by rw [same, decide_eq_true other]; rfl⟩)

theorem ownLoadStation_moves (tables : TablesOpen s) : AnswerMoves c s (ownLoadStation q s) := by
  unfold ownLoadStation
  split
  · exact answerMoves_refuse _ _
  · split
    · exact answerMoves_refuse _ _
    · split
      · exact answerMoves_refuse _ _
      · split_ifs with bad clash
        · exact answerMoves_refuse _ _
        · exact answerMoves_refuse _ _
        · rw [any_configsClash_iff] at clash
          exact answerMoves_accept (.configures _ (configures_loadStation tables bad clash) rfl) rfl

theorem ownClearStation_moves (tables : TablesOpen s) : AnswerMoves c s (ownClearStation q s) := by
  unfold ownClearStation
  split
  · exact answerMoves_refuse _ _
  · split_ifs
    · exact answerMoves_refuse _ _
    · exact answerMoves_refuse _ _
    · exact answerMoves_accept (.configures _ (configures_setStation tables StationState.noConfusion Bool.noConfusion) rfl) rfl

theorem ownLoadAreaPolicy_moves (tables : TablesOpen s) : AnswerMoves c s (ownLoadAreaPolicy q s) := by
  unfold ownLoadAreaPolicy
  split
  · split_ifs
    · exact answerMoves_refuse _ _
    · split
      · exact answerMoves_accept (.configures _
          (configures_setStation tables (fun service => ⟨service, id⟩) fun used => ⟨used, rfl⟩) rfl) rfl
      all_goals exact answerMoves_refuse _ _
  all_goals exact answerMoves_refuse _ _

theorem ownLoadParameter_moves (tables : TablesOpen s) : AnswerMoves c s (ownLoadParameter q s) := by
  unfold ownLoadParameter
  split
  · exact answerMoves_refuse _ _
  · next i _ =>
    split
    · exact answerMoves_refuse _ _
    · next r read =>
      split_ifs with inconsistent taken
      · exact answerMoves_refuse _ _
      · exact answerMoves_refuse _ _
      · obtain ⟨quantum, criticality⟩ := readParamRecord_ranges read
        have sound : RecordSound r := (recordSound_iff r).mpr ⟨quantum, criticality, by simpa using inconsistent⟩
        refine answerMoves_accept (.configures _ (configures_setStaged tables fun h => ?_) ?_) rfl
        · exact bankSound_set_some (bankSound_stagedBank h _) sound taken
        · cases active : s.settings.active <;> simp [Settings.setBank, BankId.other, active]

theorem setStaged_moves (tables : TablesOpen s) {b : Bank}
    (sound : BankSound s.settings.bankA ∧ BankSound s.settings.bankB → BankSound b) :
    AnswerMoves c s (accept [] (s.setStaged b)) :=
  answerMoves_accept (.configures _ (configures_setStaged tables sound)
    (by cases active : s.settings.active <;> simp [Settings.setBank, BankId.other, active])) rfl

theorem ownClearParameter_moves (tables : TablesOpen s) : AnswerMoves c s (ownClearParameter q s) := by
  unfold ownClearParameter
  split
  · exact answerMoves_refuse _ _
  · exact setStaged_moves tables fun h => bankSound_set_none (bankSound_stagedBank h _) _

theorem ownActivateStaged_moves (tables : TablesOpen s) : AnswerMoves c s (ownActivateStaged q s) := by
  unfold ownActivateStaged
  split_ifs with inFlight
  · exact answerMoves_refuse _ _
  · exact answerMoves_refuse _ _
  · exact answerMoves_refuse _ _
  · exact answerMoves_accept (.swaps (not_not.mp inFlight) tables) rfl

theorem ownForgetImage_moves : AnswerMoves c s (ownForgetImage q s) := by
  unfold ownForgetImage
  split
  · exact answerMoves_refuse _ _
  · split
    · exact answerMoves_refuse _ _
    all_goals
      next slot => exact answerMoves_accept (.tables (.image _ _ fun r => by simp [slot])) rfl

theorem ownOpenWindow_moves (running : s.phase = .running) : AnswerMoves c s (ownOpenWindow q s) := by
  unfold ownOpenWindow
  dsimp only
  split_ifs with key _ _ busy
  · exact answerMoves_refuse _ _
  · exact answerMoves_refuse _ _
  · exact answerMoves_refuse _ _
  · exact answerMoves_refuse _ _
  · exact answerMoves_refuse _ _
  · have changeover : s.keyPosition = .changeover := not_not.mp key
    have short (t n : Nat) : t + Config.seconds (clampLength n) ≤ t + Config.seconds 7200 := by
      simp only [Config.seconds, Config.ms, clampLength, Config.maxWindowSeconds]
      omega
    have opened {u : State} (key : u.keyPosition = .changeover) (running : u.phase = .running) (r : Raised) :
        Moves c u ((u.startWindow (clampLength (natAt (argsOf q) 0 2))).raise r) ∧
          ((u.startWindow (clampLength (natAt (argsOf q) 0 2))).raise r).phase = u.phase :=
      ⟨(Move.opens _ _ running (.inl key) (short _ _)).one.trans (raise_moves_running r running), (raise_onlyEvents r _).phase⟩
    unfold State.openFor
    dsimp only
    split
    · next ready =>
      rw [not_and, not_or, not_not] at busy
      have swapped : Moves c s s.swap := (Move.swaps (busy ready).1 (.inr (by rw [changeover]; exact KeyPosition.noConfusion))).one
      obtain ⟨moves, phase⟩ := opened (u := s.swap) changeover running
        (openedEvent (clampLength (natAt (argsOf q) 0 2)) s.settings.stagedReady q.requester)
      exact ⟨swapped.trans moves, phase⟩
    · exact opened changeover running (openedEvent _ _ _)

theorem ownExtendWindow_moves (running : s.phase = .running) : AnswerMoves c s (ownExtendWindow q s) := by
  unfold ownExtendWindow
  dsimp only
  split
  · next opened =>
    split
    · exact answerMoves_refuse _ _
    · exact answerMoves_accept (.opens _ _ running (.inr (by rw [opened]; rfl)) (Nat.min_le_right _ _)) rfl
  all_goals exact answerMoves_refuse _ _

theorem ownCloseWindow_moves (running : s.phase = .running) : AnswerMoves c s (ownCloseWindow q s) := by
  unfold ownCloseWindow
  split
  · exact ⟨closeWindow_moves _ (alive_of_running running), (closeWindow_onlyEvents _ s).phase⟩
  all_goals exact answerMoves_refuse _ _

theorem ownGrantService_moves (running : s.phase = .running) : AnswerMoves c s (ownGrantService q s) := by
  unfold ownGrantService
  split
  · exact answerMoves_refuse _ _
  · split_ifs with key unfit
    · exact answerMoves_refuse _ _
    · exact answerMoves_refuse _ _
    · rw [not_or, Bool.not_eq_false] at unfit
      exact answerMoves_accept (.stationState _ _ fun _ => ⟨⟨unfit.1, not_not.mp key⟩, running⟩) rfl

theorem ownEndService_moves : AnswerMoves c s (ownEndService q s) := by
  unfold ownEndService
  split
  · exact answerMoves_refuse _ _
  · split_ifs
    · exact answerMoves_refuse _ _
    · exact answerMoves_accept (.stationState _ _ StationState.noConfusion) rfl

theorem ownQuarantineStation_moves (running : s.phase = .running) : AnswerMoves c s (ownQuarantineStation q s) := by
  unfold ownQuarantineStation
  split
  · exact answerMoves_refuse _ _
  · split_ifs
    · exact answerMoves_refuse _ _
    · exact answerMoves_read _ _
    · next n _ _ _ =>
      have marked : Moves c s (s.setStationState n .quarantined) := (Move.stationState _ _ StationState.noConfusion).one
      have raised := raise_moves_running (c := c) (quarantinedEvent n .request) (s := s.setStationState n .quarantined) running
      exact ⟨marked.trans raised, (raise_onlyEvents _ _).phase⟩

theorem ownReleaseStation_moves : AnswerMoves c s (ownReleaseStation q s) := by
  unfold ownReleaseStation
  split
  · exact answerMoves_refuse _ _
  · split_ifs
    · exact answerMoves_refuse _ _
    · exact answerMoves_refuse _ _
    · exact answerMoves_accept (.stationState _ _ StationState.noConfusion) rfl

theorem ownTakeEvent_moves (asked : mayCarry .takeEvent c = true) : AnswerMoves c s (ownTakeEvent q s) := by
  unfold ownTakeEvent
  split
  · exact answerMoves_read _ _
  · next taken => exact answerMoves_accept (.takes _ _ asked taken) rfl

theorem ownForceEvent_moves (running : s.phase = .running) : AnswerMoves c s (ownForceEvent q s) := by
  unfold ownForceEvent
  dsimp only
  split_ifs
  · exact answerMoves_refuse _ _
  · exact ⟨raise_moves_running _ running, (raise_onlyEvents _ _).phase⟩

theorem ownSetEventControl_moves (tables : TablesOpen s) : AnswerMoves c s (ownSetEventControl q s) := by
  unfold ownSetEventControl
  split
  · exact answerMoves_refuse _ _
  · next read =>
    split_ifs with equal
    · exact answerMoves_refuse _ _
    · exact answerMoves_accept (.controls _ (configures_eventControl tables read equal)) rfl

theorem ownSetManagers_moves (tables : TablesOpen s) : AnswerMoves c s (ownSetManagers q s) := by
  unfold ownSetManagers
  dsimp only
  split_ifs with bad twice
  · exact answerMoves_refuse _ _
  · exact answerMoves_refuse _ _
  · exact answerMoves_accept (.configures _ (configures_managers tables bad twice) rfl) rfl

theorem ownSetPortSettings_moves (tables : TablesOpen s) : AnswerMoves c s (ownSetPortSettings q s) := by
  unfold ownSetPortSettings
  dsimp only
  split
  · split_ifs with bad
    · exact answerMoves_refuse _ _
    · exact answerMoves_accept (.configures _ (configures_portSettings tables _ _ _ _ bad) rfl) rfl
  all_goals exact answerMoves_refuse _ _

theorem ownSetWindowSettings_moves (tables : TablesOpen s) : AnswerMoves c s (ownSetWindowSettings q s) := by
  unfold ownSetWindowSettings
  dsimp only
  split
  · split_ifs with long
    · exact answerMoves_refuse _ _
    · exact answerMoves_accept (.configures _ (configures_windowSettings tables _ long) rfl) rfl
  · exact answerMoves_refuse _ _

theorem ownClearCounters_moves (asked : mayCarry .clearCounters c = true) : AnswerMoves c s (ownClearCounters q s) := by
  unfold ownClearCounters
  split
  · exact answerMoves_refuse _ _
  · exact answerMoves_accept (.clears _ asked) rfl

/-- The reading requests leave the state they read. -/
theorem ownRead_moves (k : RequestKind) (opens : k.privilege = .open_) : (ownRule k q s).state = s := by
  cases k <;> first
    | (exact absurd opens Privilege.noConfusion)
    | rfl
    | skip
  all_goals
    simp only [ownRule, ownReadProfile, ownReadStation, ownReadCounters, ownReadParameter, ownReadImage]
    split <;> rfl

/-- Every owning rule is made of moves. -/
theorem ownRule_moves (k : RequestKind) (running : s.phase = .running) (passed : commonRefusal k q s = none)
    (carries : mayCarry k c = true) : AnswerMoves c s (ownRule k q s) := by
  have tables := fun guarded => tablesOpen_of_passed (s := s) passed guarded
  have read := fun opens => ownRead_moves (q := q) (s := s) k opens
  have unmoved : (ownRule k q s).state = s → AnswerMoves c s (ownRule k q s) := fun same => by
    unfold AnswerMoves
    rw [same]
    exact ⟨.refl, rfl⟩
  cases k
  case loadProfile => exact ownLoadProfile_moves (tables (by decide))
  case loadStation => exact ownLoadStation_moves (tables (by decide))
  case clearStation => exact ownClearStation_moves (tables (by decide))
  case loadAreaPolicy => exact ownLoadAreaPolicy_moves (tables (by decide))
  case clearCounters => exact ownClearCounters_moves carries
  case loadParameter => exact ownLoadParameter_moves (tables (by decide))
  case clearParameter => exact ownClearParameter_moves (tables (by decide))
  case copyActiveToStaged => exact setStaged_moves (tables (by decide)) fun h => bankSound_stagedBank h _
  case markStagedReady => exact answerMoves_accept (.configures _ (configures_markReady (tables (by decide))) rfl) rfl
  case activateStaged => exact ownActivateStaged_moves (q := q) (tables (by decide))
  case forgetImage => exact ownForgetImage_moves
  case openWindow => exact ownOpenWindow_moves running
  case extendWindow => exact ownExtendWindow_moves running
  case closeWindow => exact ownCloseWindow_moves running
  case grantService => exact ownGrantService_moves running
  case endService => exact ownEndService_moves
  case quarantineStation => exact ownQuarantineStation_moves running
  case releaseStation => exact ownReleaseStation_moves
  case takeEvent => exact ownTakeEvent_moves (q := q) carries
  case forceEvent => exact ownForceEvent_moves running
  case setEventControl => exact ownSetEventControl_moves (tables (by decide))
  case lockTables => exact answerMoves_accept (.configures _ (configures_lock .locked (.inr rfl)) rfl) rfl
  case unlockTables => exact answerMoves_accept (.configures _ (configures_lock .unlocked (.inl (tables (by decide)))) rfl) rfl
  case setManagers => exact ownSetManagers_moves (tables (by decide))
  case setPortSettings => exact ownSetPortSettings_moves (tables (by decide))
  case setWindowSettings => exact ownSetWindowSettings_moves (tables (by decide))
  case saveSettings => exact answerMoves_accept .saves rfl
  case restart => exact answerMoves_accept (.quiet rfl) rfl
  all_goals exact unmoved (read rfl)

/-! ### Requests -/

theorem complete_moves (kind : Octet) (restart : Bool) (q : Request) {a : Answer} {s : State} (running : a.state.phase = .running) :
    Moves c a.state (s.complete kind restart q a) := by
  have reported : Moves c a.state (a.report kind q) ∧ (a.report kind q).phase = .running := by
    unfold Answer.report
    split
    · exact ⟨raise_moves_running _ running, (raise_onlyEvents _ _).phase.trans running⟩
    · exact ⟨.refl, running⟩
  exact reported.1.trans (sendReply_moves _ _ _ reported.2)

theorem receives_running {s : State} {p : Port} (receives : s.receives p = true) : s.phase = .running := by
  unfold State.receives at receives
  exact of_decide_eq_true (Bool.and_eq_true_iff.mp receives).1

theorem countStray_quiet (p : Port) (s : State) : Quiet s (s.countStray p) := by cases p <;> rfl

theorem take_moves (q : Request) (serve : State → State) (s : State)
    (served : ∀ u : State, u.phase = .running → Moves c u (serve u)) : Moves c s (s.take q serve) := by
  refine (clock_moves q.time s).trans ?_
  unfold State.take
  dsimp only
  split
  · next receives =>
    split
    · exact (Move.quiet (countStray_quiet _ _)).one
    · exact served _ (receives_running receives)
  · exact .refl

theorem request_moves (k : RequestKind) (q : Request) (s : State) (carries : mayCarry k c = true) :
    Moves c s (s.request k (ownRule k) q) := by
  refine take_moves q _ s fun u running => ?_
  have judged : AnswerMoves c u (judge k (ownRule k) q u) := by
    unfold judge
    split
    · exact answerMoves_refuse _ _
    · exact ownRule_moves k running ‹_› carries
  exact judged.1.trans (complete_moves _ _ q (judged.2.trans running))

theorem unknown_moves (kind : Octet) (q : Request) (s : State) : Moves c s (s.unknown kind q) :=
  take_moves q _ s fun u running => complete_moves (a := refuse _ u) kind false q running

end

end Sys2Proof.Machine

/-! PROOFS. The commands as moves: what the classifier has found of a WRITE request, the routing of an arriving frame, and
every command in turn. -/

namespace Sys2Proof.Machine

/-! ### What the classifier has found -/

/-- The role whose frames are examined on a port (R12). -/
def examinedRole : Port → Role
  | .P => .request
  | .L => .reply

/-- A frame of an identified station has passed the malformed checks of its class and role (R12 to R16). -/
theorem classifyMatched_identified {st : Settings} {port : Port} {f : List Octet} {cls : FrameClass} {prof matched : Fin 4}
    {n : Fin 32} (found : classifyMatched st port f matched = .identified cls prof n) :
    malformation st.profiles[prof] f.length (payload f) cls (examinedRole port) = none := by
  rcases classified : st.profiles[matched].classify (octetAt (payload f) st.profiles[matched].functionOffset.toNat) with ⟨x, r⟩
  simp only [classifyMatched, classified] at found
  by_cases hasCode : hasField (payload f) st.profiles[matched].functionOffset 1 = true
  · rw [if_pos hasCode] at found
    cases port <;> cases r <;> simp only [Bool.false_eq_true, if_true, if_false] at found <;> first
      | (cases found)
      | skip
    all_goals
      split at found
      · cases found
      · next wellFormed =>
        split at found
        · split at found <;> cases found
          exact wellFormed
        · cases found
  · rw [if_neg hasCode] at found
    cases found

theorem classifyArrival_identified {st : Settings} {own : Mac} {port : Port} {f : List Octet} {cls : FrameClass} {prof : Fin 4}
    {n : Fin 32} (found : classifyArrival st own port f = .identified cls prof n) :
    malformation st.profiles[prof] f.length (payload f) cls (examinedRole port) = none := by
  unfold classifyArrival at found
  split_ifs at found
  unfold classifyAccepted at found
  split_ifs at found
  split at found
  · cases found
  · exact classifyMatched_identified found

/-- A WRITE request that passes the malformed checks has 1 to 8 values whose indices stay within 16 bits (R14). -/
theorem malformation_write {p : Profile} {length : Nat} {pl : List Octet} (wellFormed : malformation p length pl .write .request = none) :
    1 ≤ p.count pl ∧ p.count pl ≤ 8 ∧ p.index pl + p.count pl ≤ 65536 := by
  unfold malformation at wellFormed
  split_ifs at wellFormed with _ _ indices area count range values
  · cases indices
  · simp only [countLimit] at count
    omega

/-! ### Admission -/

theorem vetItem_found {s : State} {w : WriteRequest} {mode : TxnMode} {i raw : Nat} {l : Listed}
    (listed : vetItem s w mode i raw = .ok (some l)) :
    (∃ r, s.settings.activeBank[l.slot] = some r ∧ r.key = w.key i) ∧ ∀ c v r, s.image[l.slot] ≠ .pending c v r := by
  simp only [vetItem] at listed
  split at listed
  · split at listed <;> cases listed
  · next slot r found =>
    have holds := lookup_some _ _ _ _ found
    split at listed
    · cases listed
    all_goals
      next settled =>
        split_ifs at listed
        split at listed <;> cases listed <;> exact ⟨⟨r, holds⟩, fun c v r => by simp [settled]⟩

theorem vetItems_length {s : State} {w : WriteRequest} {mode : TxnMode} {raws : List Nat} {k : Nat} {listed : List Listed}
    (all : vetItems s w mode raws k = .ok listed) : listed.length ≤ raws.length := by
  induction raws generalizing k listed with
  | nil => cases all; exact le_refl _
  | cons raw rest ih =>
    rw [vetItems] at all
    split at all
    · cases all
    · split at all
      · cases all
      · next items more =>
        have shorter := ih more
        cases all
        split <;> simp only [List.length_cons] <;> omega

/-- Values at different positions have different keys, where the indices stay within 16 bits. -/
theorem WriteRequest.key_injective {w : WriteRequest} {i j : Nat} (hi : w.first + i < 65536) (hj : w.first + j < 65536)
    (same : w.key i = w.key j) : i = j := by
  have index := congrArg (fun k : Key => k.index.toNat) same
  simp only [WriteRequest.key, BitVec.toNat_ofNat] at index
  omega

theorem vetItems_slots {s : State} {w : WriteRequest} {mode : TxnMode} {listed : List Listed}
    (inRange : w.first + w.raws.length ≤ 65536) (all : vetItems s w mode w.raws 0 = .ok listed) :
    (listed.map (·.slot)).Nodup ∧ ∀ i ∈ listed.map (·.slot), ∀ c v r, s.image[i] ≠ .pending c v r := by
  obtain ⟨ordered, exactly⟩ := vetItems_ok s w mode w.raws 0 listed all
  have found : ∀ l ∈ listed, l.position < w.raws.length ∧ (∃ r, s.settings.activeBank[l.slot] = some r ∧ r.key = w.key l.position) ∧
      ∀ c v r, s.image[l.slot] ≠ .pending c v r := by
    intro l member
    obtain ⟨i, raw, at_i, item⟩ := (exactly l).mp member
    have position := vetItem_position _ _ _ _ _ _ item
    obtain ⟨inside, -⟩ := List.getElem?_eq_some_iff.mp at_i
    rw [position]
    exact ⟨by omega, vetItem_found item⟩
  constructor
  · rw [List.Nodup, List.pairwise_map]
    refine (List.pairwise_map.mp ordered).imp_of_mem fun {a b} ha hb less same => ?_
    obtain ⟨boundA, ⟨r, holds, key⟩, -⟩ := found a ha
    obtain ⟨boundB, ⟨r', holds', key'⟩, -⟩ := found b hb
    simp only [same, holds', Option.some.injEq] at holds
    subst holds
    exact absurd (WriteRequest.key_injective (by omega) (by omega) (key.symm.trans key')) (by omega)
  · intro i member
    obtain ⟨l, listed, rfl⟩ := List.mem_map.mp member
    exact (found l listed).2.2

/-- The checks of steps 3 to 6 that an admitted frame has passed (R65). -/
theorem frameVerdict_ok {s : State} {w : WriteRequest} {a : Admission} (admitted : frameVerdict s w = .ok a) :
    (s.station w.station).state ≠ .quarantined ∧ a.mode = vettingMode s w.station ∧ vetItems s w a.mode w.raws 0 = .ok a.listed ∧
      trackingCheck s ⟨w.station, w.tag⟩ a.listed = none ∧ lineRoom s = true := by
  unfold frameVerdict at admitted
  split at admitted
  · cases admitted
  · next quarantined =>
    dsimp only at admitted
    split at admitted
    · cases admitted
    · next listed items =>
      split at admitted
      · cases admitted
      · next tracked =>
        split at admitted <;> cases admitted
        next room => exact ⟨quarantined, rfl, items, tracked, room⟩

theorem trackingCheck_none {s : State} {r : TxnRef} {l : Listed} {rest : List Listed}
    (passed : trackingCheck s r (l :: rest) = none) : (∀ u ∈ s.txns, u.ref ≠ r) ∧ s.txns.length < 64 := by
  unfold trackingCheck at passed
  split_ifs at passed with used full
  simp only [Config.maxTransactions] at full
  exact ⟨by simpa using used, by omega⟩

theorem satInc_le {w : Nat} (x : BitVec w) : x.toNat ≤ (satInc x).toNat := by
  unfold satInc
  split
  · exact le_refl _
  · next top =>
    have notTop : x.toNat ≠ 2 ^ w - 1 := fun h => top (BitVec.eq_of_toNat_eq (by rw [h, BitVec.toNat_allOnes]))
    have := x.isLt
    cases w with
    | zero => omega
    | succ w =>
      have two : (2 : Nat) ≤ 2 ^ (w + 1) := by rw [pow_succ]; have := Nat.one_le_two_pow (n := w); omega
      have one : (1 : BitVec (w + 1)).toNat = 1 := by
        change (1#(w + 1)).toNat = 1
        rw [BitVec.toNat_ofNat, Nat.mod_eq_of_lt (by omega)]
      rw [BitVec.toNat_add, one, Nat.mod_eq_of_lt (by omega)]
      omega

section
variable {c : Instr}

/-- A run of moves may go on with the raising of an event while the part runs. -/
theorem Moves.raise {s u : State} (moves : Moves c s u) (running : u.phase = .running) (r : Raised) :
    Moves c s (u.raise r) := moves.trans (raise_moves_running r running)

theorem countAdmitted_moves (n : Fin 32) (clamped : Bool) (s : State) : Moves c s (s.countAdmitted n clamped) := by
  have clampedGrows : s.counters[n].clamped.toNat ≤
      (if clamped then satInc s.counters[n].clamped else s.counters[n].clamped).toNat := by
    split
    · exact satInc_le _
    · exact le_refl _
  exact (Move.counts n
    { s.counters[n] with
      admitted := satInc s.counters[n].admitted
      clamped := if clamped then satInc s.counters[n].clamped else s.counters[n].clamped }
    ⟨satInc_le _, clampedGrows, le_refl _, le_refl _⟩).one

theorem countRefused_moves (n : Fin 32) (s : State) : Moves c s (s.countRefused n) :=
  (Move.counts n { s.counters[n] with refused := satInc s.counters[n].refused }
    ⟨le_refl _, le_refl _, satInc_le _, le_refl _⟩).one

theorem countDrift_moves (n : Fin 32) (s : State) : Moves c s (s.countDrift n) :=
  (Move.counts n { s.counters[n] with drift := satInc s.counters[n].drift }
    ⟨le_refl _, le_refl _, le_refl _, satInc_le _⟩).one

/-- The frame of an admitted write enters the line's queue, with its transaction where it is tracked. -/
theorem track_handOver_moves {w : WriteRequest} {a : Admission} {s : State} (arrival : forwardsTo c .L)
    (running : s.phase = .running) (few : w.raws.length ≤ 8) (inRange : w.first + w.raws.length ≤ 65536)
    (admitted : frameVerdict s w = .ok a) (octets : List Octet) :
    Moves c s ((s.track w a).handOver .L .ordinary (forwardedFrame octets (admissionMark w a))) := by
  obtain ⟨-, -, items, tracked, room⟩ := frameVerdict_ok admitted
  unfold State.track admissionMark
  split
  · next none => exact forward_moves arrival .ordinary octets running
  · next l rest some =>
    rw [some] at tracked
    obtain ⟨fresh, few'⟩ := trackingCheck_none tracked
    obtain ⟨distinct, free⟩ := vetItems_slots inRange items
    exact (Move.tables (.admits (newTxn w a) a.listed octets arrival
      { running := running, queued := rfl, slots := rfl, nonempty := by rw [some]; exact List.cons_ne_nil _ _,
        bounded := (vetItems_length items).trans few, distinct := distinct, free := free, fresh := fresh, room := few',
        accepted := room })).one

theorem vet_moves {w : WriteRequest} {s : State} (arrival : forwardsTo c .L)
    (running : s.phase = .running) (few : w.raws.length ≤ 8) (inRange : w.first + w.raws.length ≤ 65536) :
    Moves c s (s.vet w) := by
  unfold State.vet
  split
  · next a admitted =>
    have entered := (track_handOver_moves arrival running few inRange admitted (forwardedOctets w a.listed)).trans
      (countAdmitted_moves w.station (a.listed.find? (·.stage.isSome)).isSome _)
    have phase : (s.track w a).phase = .running := by
      unfold State.track
      split
      · exact running
      · rw [holdSlots_image]; exact running
    unfold State.admitWrite
    dsimp only
    split
    · exact entered
    · exact Moves.raise entered ((handOver_phase _ _ _ _).trans phase) _
  · exact (countRefused_moves _ _).raise running _

/-! ### Learning -/

theorem learn_pending_iff (v : Int) (x : ImageSlot) (r : TxnRef) :
    (∃ a b, (x.learn v).1 = .pending a b r) ↔ ∃ a b, x = .pending a b r := by
  cases x with
  | unknown => simp [ImageSlot.learn]
  | known y => simp only [ImageSlot.learn]; split <;> simp
  | pending a b t => simp only [ImageSlot.learn]; split <;> simp

theorem breachReport_moves (n : Fin 32) {s : State} (running : s.phase = .running) :
    Moves c s (s.breachReport n) ∧ (s.breachReport n).phase = .running := by
  unfold State.breachReport
  dsimp only
  split
  · have marked : Moves c s (s.setStationState n .quarantined) := (Move.stationState _ _ StationState.noConfusion).one
    exact ⟨marked.raise running _, (raise_onlyEvents _ _).phase.trans running⟩
  · exact ⟨.refl, running⟩

theorem breachCheck_moves (n : Fin 32) (k : Key) (r : ParamRecord) (changeover : Bool) (v : Int) (source : Mac) {s : State}
    (running : s.phase = .running) : Moves c s (s.breachCheck n k r changeover v source) ∧
      (s.breachCheck n k r changeover v source).phase = .running := by
  unfold State.breachCheck
  split
  · exact ⟨.refl, running⟩
  · next bound _ =>
    have phase := (raise_onlyEvents (breachEvent n k v bound changeover source) s).phase.trans running
    obtain ⟨moves, still⟩ := breachReport_moves (c := c) n phase
    exact ⟨(raise_moves_running _ running).trans moves, still⟩

theorem learnValue_moves (o : ReadOffer) (changeover : Bool) (i raw : Nat) {s : State} (running : s.phase = .running) :
    Moves c s (learnValue o changeover i raw s).1 ∧ (learnValue o changeover i raw s).1.phase = .running := by
  unfold learnValue
  dsimp only
  split
  · exact ⟨.refl, running⟩
  · next slot r _ =>
    split
    · have learned : Moves c s (s.setImage slot (s.image[slot].learn (r.kind.interpret o.width raw)).1) :=
        (Move.tables (.image slot _ (learn_pending_iff _ _))).one
      split
      · next after same => rw [same] at learned; exact ⟨learned, running⟩
      · next after d drifted =>
        rw [drifted] at learned
        have counted := learned.trans (countDrift_moves o.station _)
        have raised := Moves.raise counted running (driftEvent o.station (o.key i) r d (r.kind.interpret o.width raw) o.source)
        obtain ⟨checked, still⟩ := breachCheck_moves (c := c) o.station (o.key i) r changeover (r.kind.interpret o.width raw)
          o.source ((raise_onlyEvents (driftEvent o.station (o.key i) r d (r.kind.interpret o.width raw) o.source)
            ((s.setImage slot after).countDrift o.station)).phase.trans running)
        exact ⟨raised.trans checked, still⟩
    · exact ⟨.refl, running⟩

theorem learnValues_moves (o : ReadOffer) (changeover : Bool) (raws : List Nat) (i : Nat) {s : State} (running : s.phase = .running) :
    Moves c s (learnValues o changeover raws i s).1 ∧ (learnValues o changeover raws i s).1.phase = .running := by
  induction raws generalizing i s with
  | nil => exact ⟨.refl, running⟩
  | cons raw rest ih =>
    obtain ⟨first, still⟩ := learnValue_moves (c := c) o changeover i raw running
    obtain ⟨others, end_⟩ := ih (i + 1) still
    exact ⟨first.trans others, end_⟩

theorem reportDrifts_moves (n : Fin 32) (count : Nat) {s : State} (running : s.phase = .running) :
    Moves c s (s.reportDrifts n count) ∧ (s.reportDrifts n count).phase = .running := by
  induction count generalizing s with
  | zero => exact ⟨.refl, running⟩
  | succ count ih =>
    obtain ⟨others, still⟩ := ih (s := s.report .drift (some n)) ((report_onlyEvents _ _ s).phase.trans running)
    exact ⟨(report_moves _ _ (alive_of_running running)).trans others, still⟩

theorem learnReply_moves (o : ReadOffer) {s : State} (running : s.phase = .running) :
    Moves c s (s.learnReply o) ∧ (s.learnReply o).phase = .running := by
  obtain ⟨learned, still⟩ := learnValues_moves (c := c) o (s.changeoverInForce o.station) o.values 0 running
  unfold State.learnReply
  dsimp only
  split
  · obtain ⟨reported, end_⟩ := reportDrifts_moves (c := c) o.station (learnValues o (s.changeoverInForce o.station) o.values 0 s).2 still
    exact ⟨learned.trans reported, end_⟩
  · exact ⟨learned, still⟩

/-! ### Routing -/

theorem countUnmatched_quiet (s : State) : Quiet s s.countUnmatched := rfl

theorem countMalformed_quiet (s : State) : Quiet s s.countMalformed := rfl

theorem offerWriteReply_moves (r : TxnRef) (success : Bool) (status : Octet) {s : State} (running : s.phase = .running) :
    Moves c s (s.offerWriteReply r success status) ∧ (s.offerWriteReply r success status).phase = .running := by
  unfold State.offerWriteReply
  split
  · exact ⟨(Move.quiet (countUnmatched_quiet s)).one, running⟩
  · next t found =>
    obtain ⟨member, -, sent⟩ := findSent_some found
    exact endTxn_moves t _ status running member sent

theorem offerReply_moves (p : Profile) (n : Fin 32) (cls : FrameClass) (f : List Octet) {s : State} (running : s.phase = .running) :
    Moves c s (s.offerReply p n cls f) ∧ (s.offerReply p n cls f).phase = .running := by
  cases cls <;> simp only [State.offerReply]
  case write => exact offerWriteReply_moves _ _ _ running
  case read =>
    split
    · exact learnReply_moves _ running
    · exact ⟨.refl, running⟩
  all_goals exact ⟨.refl, running⟩

theorem routeRequest_moves {p : Profile} (n : Fin 32) {cls : FrameClass} {f : List Octet} {s : State}
    (arrival : forwardsTo c .L) (running : s.phase = .running)
    (wellFormed : malformation p f.length (payload f) cls .request = none) : Moves c s (s.routeRequest p n cls f) := by
  cases cls <;> simp only [State.routeRequest]
  case write =>
    obtain ⟨-, few, inRange⟩ := malformation_write wellFormed
    have length : (writeRequestOf p n f).raws.length = p.count (payload f) := by simp [writeRequestOf, Profile.values]
    exact vet_moves arrival running (by rw [length]; exact few) (by rw [length]; exact inRange)
  case read =>
    simp only [State.readVerdict]
    split
    · exact forward_moves arrival _ _ running
    · exact raise_moves_running _ running
  case control =>
    unfold State.gateControl
    split
    · exact forward_moves arrival _ _ running
    · exact raise_moves_running _ running
  case program =>
    unfold State.gateProgram
    split
    · exact forward_moves arrival _ _ running
    · exact raise_moves_running _ running
  all_goals exact forward_moves arrival _ _ running

theorem countPort_quiet (p : Port) (s : State) :
    Quiet s (s.countFcsError p) ∧ Quiet s (s.countLengthError p) ∧ Quiet s (s.countForeignDrop p) := by
  cases p <;> exact ⟨rfl, rfl, rfl⟩

theorem routeMalformed_moves (port : Port) (f : List Octet) (cls : Option FrameClass) (cause : Reason) {s : State}
    (arrival : forwardsTo c port.other) (running : s.phase = .running) : Moves c s (s.routeMalformed port f cls cause) := by
  have counted : Moves c s s.countMalformed := (Move.quiet (countMalformed_quiet s)).one
  cases port
  · exact Moves.raise counted running (malformedEvent (frameSource f) cause)
  · exact counted.trans (forward_moves (s := s.countMalformed) arrival _ _ running)

theorem routeUnknown_moves (port : Port) (f : List Octet) (cls : FrameClass) {s : State} (arrival : forwardsTo c port.other)
    (running : s.phase = .running) :
    Moves c s (s.routeUnknown port f cls) := by
  unfold State.routeUnknown
  split
  case h_1 | h_2 | h_3 => exact raise_moves_running _ running
  all_goals exact forward_moves arrival _ _ running

theorem routeForeign_moves (port : Port) (f : List Octet) {s : State} (arrival : forwardsTo c port.other)
    (running : s.phase = .running) :
    Moves c s (s.routeForeign port f) := by
  unfold State.routeForeign
  split
  · exact forward_moves arrival _ _ running
  · exact (Move.quiet (countPort_quiet port s).2.2).one

theorem routeArrival_moves (port : Port) (f : List Octet) {a : Arrival} {s : State}
    (arrival : forwardsTo c port.other) (running : s.phase = .running)
    (found : classifyArrival s.settings s.identity.address port f = a) : Moves c s (s.routeArrival port f a) := by
  cases a <;> simp only [State.routeArrival]
  case fcsError => exact (Move.quiet (countPort_quiet port s).1).one
  case lengthError => exact (Move.quiet (countPort_quiet port s).2.1).one
  case stray => exact (Move.quiet (countStray_quiet port s)).one
  case foreign => exact routeForeign_moves port f arrival running
  case malformed => exact routeMalformed_moves port f _ _ arrival running
  case unknownStation => exact routeUnknown_moves port f _ arrival running
  case unexamined | plain => exact forward_moves arrival _ _ running
  case identified cls prof n =>
    have wellFormed := classifyArrival_identified found
    cases port
    · exact routeRequest_moves n arrival running wellFormed
    · obtain ⟨offered, still⟩ := offerReply_moves (c := c) s.settings.profiles[prof] n cls f running
      exact offered.trans (forward_moves arrival _ _ still)
  all_goals exact .refl

end

/-! ### Every command in turn -/

/-- The command of a request of the directory may carry it. -/
theorem mayCarry_command (k : RequestKind) (q : Request) : mayCarry k (k.command q) = true := by
  cases k <;> simp [mayCarry, RequestKind.command, Instr.carried]

theorem RequestKind.ofCode_some {o : Octet} {k : RequestKind} (found : RequestKind.ofCode o = some k) : k.code = o := by
  simpa using List.find?_some found

theorem takeManagement_moves {c : Instr} (version kind : Octet) (q : Request) (s : State)
    (carries : ∀ k : RequestKind, version = Config.protocolVersion → k.code = kind → mayCarry k c = true) :
    Moves c s (s.takeManagement version kind q) := by
  unfold State.takeManagement
  split
  · next isVersion =>
    split
    · next k found => exact request_moves k q s (carries k isVersion (RequestKind.ofCode_some found))
    · exact unknown_moves kind q s
  · exact unknown_moves kind q s

theorem execFrameArrival_moves (time : Nat) (port : Port) (whole : Bool) (octets : List Octet) (s : State) :
    ∃ u, execFrameArrival time port whole octets s = .next u ∧ Moves (.frameArrival time port whole octets) s u := by
  have clocked := clock_moves (c := .frameArrival time port whole octets) time s
  unfold execFrameArrival
  dsimp only
  split
  · next received =>
    have running := receives_running (Bool.and_eq_true_iff.mp received).1
    split
    · refine ⟨_, rfl, clocked.trans (takeManagement_moves _ _ _ _ fun k version kind => ?_)⟩
      simp [mayCarry, version, kind]
    · exact ⟨_, rfl, clocked.trans (routeArrival_moves port octets ⟨time, whole, octets, by cases port <;> rfl⟩ running rfl)⟩
  · exact ⟨_, rfl, clocked⟩

end Sys2Proof.Machine

/-! PROOFS. The egress queues: what a selection, an entry, a completion and a flush make of a port's queues, their marks and
their run count. -/

namespace Sys2Proof.Machine

/-! ### The head of a queue -/

@[simp] theorem startHead_length (q : List QueuedFrame) : (startHead q).length = q.length := by cases q <;> rfl

@[simp] theorem startHead_tail (q : List QueuedFrame) : (startHead q).tail = q.tail := by cases q <;> rfl

@[simp] theorem startHead_marks (q : List QueuedFrame) : (startHead q).filterMap (·.txn) = q.filterMap (·.txn) := by
  cases q <;> rfl

@[simp] theorem startHead_eq_nil_iff (q : List QueuedFrame) : startHead q = [] ↔ q = [] := by cases q <;> simp [startHead]

theorem startHead_any {q : List QueuedFrame} (waits : q ≠ []) : (startHead q).any (·.inTransmission) = true := by
  cases q with
  | nil => exact absurd rfl waits
  | cons f rest => rfl

theorem transmitterFree_iff (ps : PortState) : ps.transmitterFree = true ↔
    ps.express.any (·.inTransmission) = false ∧ ps.ordinary.any (·.inTransmission) = false := by
  rw [PortState.transmitterFree, Bool.and_eq_true, Bool.not_eq_true', Bool.not_eq_true']

/-! ### A selection -/

/-- Everything a selection can come to (R136). -/
theorem select_cases (share : Nat) (ps : PortState) :
    (ps.select share = ps ∧ (ps.up = true → ps.transmitterFree = true → ps.express = [] ∧ ps.ordinary = [])) ∨
    (ps.up = true ∧ ps.transmitterFree = true ∧ ps.ordinary ≠ [] ∧
      ps.select share = { ps with ordinary := startHead ps.ordinary, runCount := 0 }) ∨
    (ps.up = true ∧ ps.transmitterFree = true ∧ ps.express ≠ [] ∧ ∃ n, (n = ps.runCount ∨ (n = ps.runCount + 1 ∧ n ≤ share)) ∧
      ps.select share = { ps with express := startHead ps.express, runCount := n }) := by
  by_cases ready : ps.up = true ∧ ps.transmitterFree = true
  · obtain ⟨up, free⟩ := ready
    unfold PortState.select
    rw [if_pos (by rw [up, free]; rfl)]
    split
    · next ordinary express => exact .inl ⟨rfl, fun _ _ => ⟨express, ordinary⟩⟩
    · next ordinary express => exact .inr (.inl ⟨up, free, by simp [ordinary], rfl⟩)
    · next ordinary express =>
      split
      · exact .inr (.inl ⟨up, free, by simp [ordinary], rfl⟩)
      · exact .inr (.inr ⟨up, free, by simp [express], _, .inr ⟨rfl, by omega⟩, rfl⟩)
    · next ordinary express => exact .inr (.inr ⟨up, free, by simp [express], _, .inl rfl, rfl⟩)
  · refine .inl ⟨?_, fun up free => absurd ⟨up, free⟩ ready⟩
    unfold PortState.select
    rw [if_neg (by rwa [Bool.and_eq_true])]

theorem select_marks (share : Nat) (ps : PortState) :
    (ps.select share).express.filterMap (·.txn) = ps.express.filterMap (·.txn) ∧
      (ps.select share).ordinary.filterMap (·.txn) = ps.ordinary.filterMap (·.txn) := by
  rcases select_cases share ps with ⟨same, -⟩ | ⟨-, -, -, same⟩ | ⟨-, -, -, n, -, same⟩ <;> rw [same] <;> simp

theorem select_runCount {share bound : Nat} {ps : PortState} (shareFits : share ≤ bound) (fits : ps.runCount ≤ bound) :
    (ps.select share).runCount ≤ bound := by
  rcases select_cases share ps with ⟨same, -⟩ | ⟨-, -, -, same⟩ | ⟨-, -, -, n, count, same⟩ <;> rw [same]
  · exact fits
  · exact Nat.zero_le _
  · rcases count with rfl | ⟨rfl, less⟩
    · exact fits
    · exact less.trans shareFits

theorem select_links (share : Nat) (ps : PortState) :
    (ps.select share).up = ps.up ∧ (ps.select share).phyUp = ps.phyUp := by
  rcases select_cases share ps with ⟨same, -⟩ | ⟨-, -, -, same⟩ | ⟨-, -, -, n, -, same⟩ <;> rw [same] <;> exact ⟨rfl, rfl⟩

/-- A port's queues but for the selection that may be due: `PortSound` without its clause on a free transmitter. -/
structure PortPlaced (ps : PortState) : Prop where
  express : ps.express.length ≤ 32
  ordinary : ps.ordinary.length ≤ 64
  expressTail : ∀ f ∈ ps.express.tail, f.inTransmission = false
  ordinaryTail : ∀ f ∈ ps.ordinary.tail, f.inTransmission = false
  oneTransmission : ps.express.any (·.inTransmission) = false ∨ ps.ordinary.any (·.inTransmission) = false
  down : ps.up = false → ps.express = [] ∧ ps.ordinary = [] ∧ ps.runCount = 0

theorem portSound_iff (ps : PortState) :
    PortSound ps ↔ PortPlaced ps ∧ (ps.transmitterFree = true → ps.express = [] ∧ ps.ordinary = []) :=
  ⟨fun h => ⟨{ h with }, h.busy⟩, fun h => { h.1 with busy := h.2 }⟩

/-- The selection leaves nothing waiting while the transmitter is free. -/
theorem select_sound (share : Nat) {ps : PortState} (h : PortPlaced ps) : PortSound (ps.select share) := by
  rcases select_cases share ps with ⟨same, empty⟩ | ⟨up, free, waits, same⟩ | ⟨up, free, waits, n, -, same⟩ <;> rw [same]
  · rw [portSound_iff]
    refine ⟨h, fun free => ?_⟩
    cases up : ps.up with
    | true => exact empty up free
    | false => exact ⟨(h.down up).1, (h.down up).2.1⟩
  all_goals
    obtain ⟨freeExpress, freeOrdinary⟩ := (transmitterFree_iff ps).mp free
    have sending := startHead_any waits
    rw [portSound_iff]
    refine ⟨⟨?_, ?_, ?_, ?_, ?_, fun down => absurd (up.symm.trans down) (by decide)⟩,
      fun idle => absurd ((transmitterFree_iff _).mp idle) (by simp [sending])⟩
  · exact h.express
  · simpa using h.ordinary
  · exact h.expressTail
  · simpa using h.ordinaryTail
  · exact .inl freeExpress
  · simpa using h.express
  · exact h.ordinary
  · simpa using h.expressTail
  · exact h.ordinaryTail
  · exact .inr freeOrdinary

/-! ### An entry -/

@[simp] theorem push_up (k : QueueKind) (f : QueuedFrame) (ps : PortState) : (ps.push k f).up = ps.up := by cases k <;> rfl

@[simp] theorem push_runCount (k : QueueKind) (f : QueuedFrame) (ps : PortState) : (ps.push k f).runCount = ps.runCount := by
  cases k <;> rfl

theorem push_placed {k : QueueKind} {f : QueuedFrame} {ps : PortState} (h : PortPlaced ps) (accepts : ps.accepts k = true)
    (waiting : f.inTransmission = false) : PortPlaced (ps.push k f) := by
  obtain ⟨up, room⟩ := Bool.and_eq_true_iff.mp accepts
  have room := of_decide_eq_true room
  have down (x : PortState) (same : x.up = ps.up) : x.up = false → x.express = [] ∧ x.ordinary = [] ∧ x.runCount = 0 := fun isDown =>
    absurd (up.symm.trans (same.symm.trans isDown)) (by decide)
  have tail (q : List QueuedFrame) (old : ∀ x ∈ q.tail, x.inTransmission = false) :
      ∀ x ∈ (q ++ [f]).tail, x.inTransmission = false := by
    cases q with
    | nil => simp
    | cons y rest => simpa [or_imp, forall_and, waiting] using old
  cases k
  · exact ⟨by simpa [PortState.push] using (show ps.express.length < 32 from room), h.ordinary, tail _ h.expressTail, h.ordinaryTail,
      by simpa [PortState.push, waiting] using h.oneTransmission, down _ rfl⟩
  · exact ⟨h.express, by simpa [PortState.push] using (show ps.ordinary.length < 64 from room), h.expressTail, tail _ h.ordinaryTail,
      by simpa [PortState.push, waiting] using h.oneTransmission, down _ rfl⟩

/-- Everything an entry can come to (R133, R136): a selection among the queues with the frame, or the frame in the selection
that was made at this moment. -/
theorem enter_cases (now share : Nat) (k : QueueKind) (f : QueuedFrame) (ps : PortState) :
    (∃ alone, ps.enter now share k f = { (ps.push k f).select share with aloneAt := alone }) ∨
    ((k = .ordinary ∧ ps.express.any (·.inTransmission) = true ∧ ps.runCount < share) ∧
      ps.enter now share k f = { ps.push k f with runCount := ps.runCount + 1, aloneAt := none }) := by
  unfold PortState.enter
  split_ifs with alone joins
  · exact .inl ⟨_, rfl⟩
  · simp only [PortState.joinsSelection, Bool.and_eq_true, decide_eq_true_eq] at joins
    obtain ⟨⟨⟨⟨ordinary, -⟩, -⟩, sending⟩, less⟩ := joins
    exact .inr ⟨⟨ordinary, sending, less⟩, rfl⟩
  · exact .inl ⟨_, rfl⟩

theorem enter_sound {now share : Nat} {k : QueueKind} {f : QueuedFrame} {ps : PortState} (h : PortPlaced ps)
    (accepts : ps.accepts k = true) (waiting : f.inTransmission = false) : PortSound (ps.enter now share k f) := by
  have placed := push_placed h accepts waiting
  rcases enter_cases now share k f ps with ⟨alone, same⟩ | ⟨⟨rfl, sending, -⟩, same⟩ <;> rw [same]
  · exact { select_sound share placed with }
  · obtain ⟨up, -⟩ := Bool.and_eq_true_iff.mp accepts
    exact { placed with
      down := fun down => absurd (up.symm.trans down) (by decide)
      busy := fun free => absurd ((transmitterFree_iff _).mp free).1 (by simpa [PortState.push] using sending) }

theorem handOver_sound {now share : Nat} {k : QueueKind} {f : QueuedFrame} {ps : PortState} (h : PortSound ps)
    (waiting : f.inTransmission = false) : PortSound (ps.handOver now share k f) := by
  unfold PortState.handOver
  split
  · exact enter_sound ((portSound_iff ps).mp h).1 ‹_› waiting
  · unfold PortState.countDrop
    dsimp only
    split
    · exact { h with }
    · split
      · split <;> exact { h with }
      · exact { h with }

/-- The marks of a queue once frame `f` is handed over for queue `k`. -/
theorem enter_marks (now share : Nat) (k : QueueKind) (f : QueuedFrame) (ps : PortState) :
    (ps.enter now share k f).express.filterMap (·.txn) =
        ps.express.filterMap (·.txn) ++ (if k = .express then f.txn.toList else []) ∧
      (ps.enter now share k f).ordinary.filterMap (·.txn) =
        ps.ordinary.filterMap (·.txn) ++ (if k = .ordinary then f.txn.toList else []) := by
  have marks := select_marks share (ps.push k f)
  have pushed : (ps.push k f).express.filterMap (·.txn) =
      ps.express.filterMap (·.txn) ++ (if k = .express then f.txn.toList else []) ∧
      (ps.push k f).ordinary.filterMap (·.txn) =
        ps.ordinary.filterMap (·.txn) ++ (if k = .ordinary then f.txn.toList else []) := by
    cases k <;> cases mark : f.txn <;> simp [PortState.push, mark]
  rcases enter_cases now share k f ps with ⟨alone, same⟩ | ⟨-, same⟩ <;> rw [same]
  · exact ⟨marks.1.trans pushed.1, marks.2.trans pushed.2⟩
  · exact pushed

/-- A drop is counted and changes nothing else of the port. -/
theorem countDrop_eq (k : QueueKind) (o : Origin) (ps : PortState) :
    ps.countDrop k o = { ps with egress := (ps.countDrop k o).egress } := by
  unfold PortState.countDrop
  dsimp only
  split
  · rfl
  · split
    · split <;> rfl
    · rfl

theorem handOver_marks_unmarked {now share : Nat} {k : QueueKind} {f : QueuedFrame} (unmarked : f.txn = none) (ps : PortState) :
    (ps.handOver now share k f).express.filterMap (·.txn) = ps.express.filterMap (·.txn) ∧
      (ps.handOver now share k f).ordinary.filterMap (·.txn) = ps.ordinary.filterMap (·.txn) := by
  unfold PortState.handOver
  split
  · have marks := enter_marks now share k f ps
    simpa [unmarked] using marks
  · rw [countDrop_eq]
    exact ⟨rfl, rfl⟩

theorem handOver_links (now share : Nat) (k : QueueKind) (f : QueuedFrame) (ps : PortState) :
    (ps.handOver now share k f).up = ps.up ∧ (ps.handOver now share k f).phyUp = ps.phyUp := by
  have pushed : (ps.push k f).up = ps.up ∧ (ps.push k f).phyUp = ps.phyUp := by cases k <;> exact ⟨rfl, rfl⟩
  have selected := select_links share (ps.push k f)
  unfold PortState.handOver
  split
  · rcases enter_cases now share k f ps with ⟨alone, same⟩ | ⟨-, same⟩ <;> rw [same]
    · exact ⟨selected.1.trans pushed.1, selected.2.trans pushed.2⟩
    · exact pushed
  · rw [countDrop_eq]
    exact ⟨rfl, rfl⟩

theorem handOver_runCount {now share bound : Nat} {k : QueueKind} {f : QueuedFrame} {ps : PortState} (shareFits : share ≤ bound)
    (fits : ps.runCount ≤ bound) : (ps.handOver now share k f).runCount ≤ bound := by
  have selected := select_runCount (ps := ps.push k f) shareFits (by rw [push_runCount]; exact fits)
  unfold PortState.handOver
  split
  · rcases enter_cases now share k f ps with ⟨alone, same⟩ | ⟨⟨-, -, less⟩, same⟩ <;> rw [same]
    · exact selected
    · exact Nat.succ_le_of_lt (less.trans_le shareFits)
  · rw [countDrop_eq]
    exact fits

/-- A queue whose list of marks is empty holds no marked frame. -/
theorem marks_eq_nil_iff (q : List QueuedFrame) : q.filterMap (·.txn) = [] ↔ ∀ f ∈ q, f.txn = none :=
  List.filterMap_eq_nil_iff

/-! ### A completion -/

/-- The frame that completes is the head of one of the queues, in transmission; its queue loses it (R138). -/
theorem complete_cases {ps after : PortState} {f : QueuedFrame} (sent : ps.complete = some (f, after)) :
    f.inTransmission = true ∧ after.up = ps.up ∧ after.phyUp = ps.phyUp ∧ after.runCount = ps.runCount ∧
      ((ps.express = f :: after.express ∧ after.ordinary = ps.ordinary) ∨
        (ps.ordinary = f :: after.ordinary ∧ after.express = ps.express)) := by
  unfold PortState.complete at sent
  dsimp only at sent
  split at sent
  · next express =>
    split at sent
    · next sending => cases sent; exact ⟨sending, rfl, rfl, rfl, .inl ⟨express, rfl⟩⟩
    · split at sent
      · next ordinary =>
        split at sent <;> cases sent
        next sending => exact ⟨sending, rfl, rfl, rfl, .inr ⟨ordinary, rfl⟩⟩
      · cases sent
  · next express ordinary =>
    split at sent <;> cases sent
    next sending => exact ⟨sending, rfl, rfl, rfl, .inr ⟨ordinary, rfl⟩⟩
  · cases sent

theorem complete_placed {ps after : PortState} {f : QueuedFrame} (sent : ps.complete = some (f, after)) (h : PortSound ps) :
    PortPlaced after := by
  obtain ⟨-, up, -, runCount, queues⟩ := complete_cases sent
  have tail {a b : List QueuedFrame} (old : a = f :: b) (waiting : ∀ x ∈ a.tail, x.inTransmission = false) :
      b.any (·.inTransmission) = false ∧ ∀ x ∈ b.tail, x.inTransmission = false := by
    rw [old, List.tail_cons] at waiting
    exact ⟨by simpa using waiting, fun x member => waiting x (List.mem_of_mem_tail member)⟩
  rcases queues with ⟨express, ordinary⟩ | ⟨ordinary, express⟩
  · obtain ⟨free, waiting⟩ := tail express h.expressTail
    have length := h.express
    rw [express, List.length_cons] at length
    refine ⟨by omega, ordinary ▸ h.ordinary, waiting, ordinary ▸ h.ordinaryTail, .inl free, fun down => ?_⟩
    rw [up] at down
    exact absurd (h.down down).1 (by simp [express])
  · obtain ⟨free, waiting⟩ := tail ordinary h.ordinaryTail
    have length := h.ordinary
    rw [ordinary, List.length_cons] at length
    refine ⟨express ▸ h.express, by omega, express ▸ h.expressTail, waiting, .inr free, fun down => ?_⟩
    rw [up] at down
    exact absurd (h.down down).2.1 (by simp [ordinary])

/-! ### Queues emptied -/

theorem emptied_sound {ps : PortState} : PortSound ps.emptied :=
  ⟨by simp [PortState.emptied], by simp [PortState.emptied], by simp [PortState.emptied], by simp [PortState.emptied],
    .inl rfl, fun _ => ⟨rfl, rfl⟩, fun _ => ⟨rfl, rfl, rfl⟩⟩

theorem flush_sound (now : Nat) (ps : PortState) : PortSound (ps.flush now) :=
  ⟨by simp [PortState.flush], by simp [PortState.flush], by simp [PortState.flush], by simp [PortState.flush],
    .inl rfl, fun _ => ⟨rfl, rfl⟩, fun _ => ⟨rfl, rfl, rfl⟩⟩

theorem freshPort_sound (up : Bool) : PortSound (freshPort up) :=
  ⟨by simp [freshPort], by simp [freshPort], by simp [freshPort], by simp [freshPort], .inl rfl, fun _ => ⟨rfl, rfl⟩,
    fun _ => ⟨rfl, rfl, rfl⟩⟩

theorem emptied_select (share : Nat) (ps : PortState) : ps.emptied.select share = ps.emptied := by
  rcases select_cases share ps.emptied with ⟨same, -⟩ | ⟨-, -, waits, -⟩ | ⟨-, -, waits, -⟩
  · exact same
  · exact absurd rfl waits
  · exact absurd rfl waits

end Sys2Proof.Machine

/-! PROOFS. The remaining commands as moves, and the moves of every command and every step. -/

namespace Sys2Proof.Machine

/-! ### Ports under hand-over and events -/

theorem handOver_port (p p' : Port) (k : QueueKind) (f : QueuedFrame) (s : State) :
    (s.handOver p k f).port p' =
      if p' = p then (s.port p').handOver s.now (s.settings.port p').share k f else s.port p' := by
  cases p <;> cases p' <;> rfl

/-- What a hand-over of a frame of the part's own keeps of a port, the taking of an event keeps. -/
theorem takeRaised_port {Q : PortState → Prop} {p : Port} {s : State} (r : Raised)
    (hands : ∀ (now : Nat) (f : QueuedFrame) (ps : PortState), f.txn = none → f.inTransmission = false → f.origin = .part → Q ps →
      Q (ps.handOver now (s.settings.port p).share .ordinary f)) (h : Q (s.port p)) : Q ((s.takeRaised r).port p) := by
  have notice : ∀ (u : State) (e : EventRecord), u.settings = s.settings → Q (u.port p) → Q ((u.sendNotice e).port p) := by
    intro u e settings hu
    unfold State.sendNotice
    split
    · exact hu
    · rw [handOver_port]
      split
      · rw [settings]; exact hands _ _ _ rfl rfl rfl hu
      · exact hu
  have entry : ∀ (u : State) (x : EntryResult), (u.withEntry x).port p = u.port p := fun u x => by cases p <;> rfl
  have trip : ∀ b : Bool, (if b then s.startTrip else s).port p = s.port p ∧ (if b then s.startTrip else s).settings = s.settings := by
    intro b
    cases b <;> cases p <;> exact ⟨rfl, rfl⟩
  unfold State.takeRaised
  dsimp only
  by_cases level : (makeRecord s.settings s.now r).effective = 7
  · simp only [level, if_true]
    split
    · exact notice _ _ rfl (by rw [entry]; exact (trip true).1 ▸ h)
    · rw [entry]; exact (trip true).1 ▸ h
  · simp only [level, if_false]
    split
    · exact notice _ _ rfl (by rw [entry]; exact h)
    · rw [entry]; exact h

theorem startHoldOff_port (s : State) (p : Port) : s.startHoldOff.port p = s.port p := by cases p <;> rfl

/-- What every hand-over of a frame of the part's own keeps of a port. -/
def PartFramesKeep (Q : PortState → Prop) : Prop :=
  ∀ (now share : Nat) (f : QueuedFrame) (ps : PortState), f.txn = none → f.inTransmission = false → f.origin = .part → Q ps →
    Q (ps.handOver now share .ordinary f)

section
variable {Q : PortState → Prop} (keeps : PartFramesKeep Q) {p : Port} {s : State}
include keeps

theorem examineDraining_port (h : Q (s.port p)) : Q (s.examineDraining.port p) := by
  have fold : ∀ (entries : List (Fin 32)) (u : State), Q (u.port p) → Q ((entries.foldl checkStation u).port p) := by
    intro entries
    induction entries with
    | nil => exact fun _ hu => hu
    | cons n rest ih =>
      intro u hu
      refine ih _ ?_
      unfold checkStation
      dsimp only
      split
      · exact takeRaised_port _ (fun now => keeps now _) hu
      · exact hu
  unfold State.examineDraining
  split
  · have checked : Q (s.changeoverCheck.port p) := fold _ s h
    rw [startHoldOff_port]
    exact checked
  · exact h

theorem closeWindow_port (cause : CloseCause) (h : Q (s.port p)) : Q ((s.closeWindow cause).port p) := by
  unfold State.closeWindow
  split
  · refine examineDraining_port keeps (takeRaised_port _ (fun now => keeps now _) ?_)
    cases p <;> exact h
  all_goals exact h

theorem report_port (t : Trigger) (n : Option (Fin 32)) (h : Q (s.port p)) : Q ((s.report t n).port p) := by
  unfold State.report
  split
  · exact closeWindow_port keeps _ h
  · exact h

end

/-! ### Marks -/

/-- Neither queue of the port holds a marked frame. -/
def PortState.Unmarked (ps : PortState) : Prop :=
  ps.express.filterMap (·.txn) = [] ∧ ps.ordinary.filterMap (·.txn) = []

/-- The line's ordinary queue holds no marked frame. -/
def LineUnmarked (s : State) : Prop := ∀ f ∈ s.portL.ordinary, f.txn = none

theorem PortState.Unmarked.line {s : State} (h : s.portL.Unmarked) : LineUnmarked s := (marks_eq_nil_iff _).mp h.2

theorem unmarked_keeps : PartFramesKeep PortState.Unmarked := by
  intro now share f ps unmarked _ _ h
  obtain ⟨express, ordinary⟩ := handOver_marks_unmarked (now := now) (share := share) (k := .ordinary) unmarked ps
  exact ⟨express.trans h.1, ordinary.trans h.2⟩

/-! ### A loss of link -/

section
variable {c : Instr}

theorem linkReport_moves (p : Port) {s : State} (alive : s.phase.alive = true) :
    Moves c s (s.linkReport p) ∧ (s.linkReport p).phase = s.phase := by
  cases p
  · exact ⟨.refl, rfl⟩
  · exact ⟨report_moves _ _ alive, (report_onlyEvents _ _ s).phase⟩

theorem linkDiscards_moves (p : Port) {s : State} (alive : s.phase.alive = true) (unmarked : p = .L → LineUnmarked s) :
    Moves c s (s.linkDiscards p) ∧ (s.linkDiscards p).phase = s.phase := by
  cases p
  · exact ⟨.refl, rfl⟩
  · exact discardQueued_moves alive (unmarked rfl)

/-- An optional stretch of moves that leaves the phase. -/
theorem optional_moves {s u : State} {q : Prop} [Decidable q] (alive : s.phase.alive = true)
    (h : Moves c s u ∧ u.phase = s.phase) :
    Moves c s (if q then u else s) ∧ (if q then u else s).phase.alive = true := by
  split
  · exact ⟨h.1, by rw [h.2]; exact alive⟩
  · exact ⟨.refl, alive⟩

theorem portDown_moves (p : Port) (t : Nat) (order : LinkOrder) {s : State} (down : c = .linkDown t p order)
    (alive : s.phase.alive = true) : Moves c s ((s.setPhy p false).portDown p order) := by
  have lost : Moves c s (s.linkLost p) := (Move.tables (.losesLink p t order down)).one
  have same : (s.setPhy p false).setPort p (((s.setPhy p false).port p).flush (s.setPhy p false).now) = s.linkLost p := by
    cases p <;> rfl
  have phase : (s.linkLost p).phase = s.phase := by cases p <;> rfl
  have flushed : p = .L → (s.linkLost p).portL.Unmarked := by
    rintro rfl
    exact ⟨rfl, rfl⟩
  unfold State.portDown
  rw [same]
  generalize ((s.setPhy p false).port p).allFrames.any (·.restart) = restarting
  dsimp only
  generalize s.linkLost p = s1 at *
  have alive1 : s1.phase.alive = true := by rw [phase]; exact alive
  obtain ⟨first, alive2⟩ := optional_moves (q := order = .reportFirst) alive1 (linkReport_moves (c := c) p alive1)
  have unmarked : p = .L → LineUnmarked (if order = .reportFirst then s1.linkReport p else s1) := by
    rintro rfl
    split
    · exact (report_port (p := .L) unmarked_keeps _ _ (flushed rfl)).line
    · exact (flushed rfl).line
  generalize (if order = .reportFirst then s1.linkReport p else s1) = s2 at *
  obtain ⟨discarded, phase3⟩ := linkDiscards_moves (c := c) p alive2 unmarked
  have alive3 : (s2.linkDiscards p).phase.alive = true := by rw [phase3]; exact alive2
  generalize s2.linkDiscards p = s3 at *
  obtain ⟨second, alive4⟩ := optional_moves (q := order = .discardsFirst) alive3 (linkReport_moves (c := c) p alive3)
  generalize (if order = .discardsFirst then s3.linkReport p else s3) = s4 at *
  have started : Moves c s4 (if restarting = true then s4.beginWarmStart else s4) ∧
      (if restarting = true then s4.beginWarmStart else s4).phase.alive = true := by
    split
    · exact ⟨(Move.warmStarts alive4).one, rfl⟩
    · exact ⟨.refl, alive4⟩
  generalize (if restarting = true then s4.beginWarmStart else s4) = s5 at *
  obtain ⟨last, -⟩ := optional_moves (q := order = .reportLast) started.2 (linkReport_moves (c := c) p started.2)
  exact ((((lost.trans first).trans discarded).trans second).trans started.1).trans last

/-! ### A completion -/

/-- A warm start that a completion begins differs from one begun before it by the port's counters alone. -/
theorem beginWarmStart_frameSent (p : Port) (f : QueuedFrame) {after : PortState} {s : State}
    (sent : (s.port p).complete = some (f, after)) : Quiet s.beginWarmStart ((s.frameSent p f after).beginWarmStart.selectOn p) := by
  have links := complete_cases sent
  have selected (u : State) : u.beginWarmStart.selectOn p = u.beginWarmStart := by
    cases p <;> simp only [State.selectOn, State.beginWarmStart, reAlarm_portP, reAlarm_portL, State.port, emptied_select] <;> rfl
  have counters : after.emptied = { (s.port p).emptied with arrival := after.arrival, egress := after.egress, lostAt := after.lostAt } := by
    unfold PortState.emptied
    rw [links.2.1, links.2.2.1]
  have portOnly : (s.frameSent p f after).beginWarmStart = (s.setPort p after).beginWarmStart := by
    unfold State.frameSent
    split <;> cases p <;> rfl
  rw [selected, portOnly]
  cases p <;> simp only [State.beginWarmStart, Quiet, setPort_P, setPort_L, State.reAlarm, counters, State.port]

theorem completeOn_moves (p : Port) (f : QueuedFrame) (after : PortState) {s : State} (running : s.phase = .running)
    (sent : (s.port p).complete = some (f, after)) : Moves c s (s.completeOn p f after) := by
  have unfolded : s.completeOn p f after =
      (if f.restart then (s.frameSent p f after).beginWarmStart else s.frameSent p f after).selectOn p := rfl
  rw [unfolded]
  split
  · exact (Move.warmStarts (alive_of_running running)).one.tail (.quiet (beginWarmStart_frameSent p f sent))
  · exact (Move.tables (.sends p f after running sent)).one

/-! ### The taken inputs -/

theorem lineIn_quiet (x : Sampled LineState) (s : State) : Quiet s { s with lineIn := x } := rfl

theorem takeKeyCode_moves (code : KeyCode) (t : Nat) {s : State} (running : s.phase = .running) (taken : c = .keyCodeTaken t) :
    Moves c s (s.takeKeyCode code) := by
  have moved : Moves c s (s.keyMoved code) := (Move.keyTaken code t running taken).one
  have still : (s.keyMoved code).phase = .running := running
  have closed : (if s.key.taken.position = .changeover ∧ code.position ≠ .changeover then
        (if s.key.taken.position = .service ∧ code.position ≠ .service then ({ s with key := ⟨code, none⟩ } : State).leaveService
          else { s with key := ⟨code, none⟩ }).closeWindow .key
      else if s.key.taken.position = .service ∧ code.position ≠ .service then ({ s with key := ⟨code, none⟩ } : State).leaveService
          else { s with key := ⟨code, none⟩ }) =
      if s.keyPosition = .changeover ∧ code.position ≠ .changeover ∧ s.window.isOpen then
        ((s.keyMoved code).takeRaised (closedEvent .key s.changeInFlight)).examineDraining
      else s.keyMoved code := by
    have left : (if s.key.taken.position = .service ∧ code.position ≠ .service then
        ({ s with key := ⟨code, none⟩ } : State).leaveService else { s with key := ⟨code, none⟩ }) =
        { s with
          key := ⟨code, none⟩
          settings := if s.keyPosition = .service ∧ code.position ≠ .service then s.leaveService.settings else s.settings } := by
      rw [State.keyPosition]
      split <;> rfl
    rw [left]
    by_cases leaves : s.keyPosition = .changeover ∧ code.position ≠ .changeover
    · rw [if_pos (show s.key.taken.position = .changeover ∧ _ from leaves)]
      cases window : s.window <;> simp [State.keyMoved, State.closeWindow, Window.isOpen, leaves, window, State.changeInFlight]
    · have stays : ¬ (s.keyPosition = .changeover ∧ code.position ≠ .changeover ∧ s.window.isOpen = true) := fun h =>
        leaves ⟨h.1, h.2.1⟩
      rw [if_neg (show ¬ (s.key.taken.position = .changeover ∧ _) from leaves), if_neg stays, State.keyMoved, if_neg stays]
  have closing : Moves c s (if s.keyPosition = .changeover ∧ code.position ≠ .changeover ∧ s.window.isOpen then
        ((s.keyMoved code).takeRaised (closedEvent .key s.changeInFlight)).examineDraining else s.keyMoved code) ∧
      (if s.keyPosition = .changeover ∧ code.position ≠ .changeover ∧ s.window.isOpen then
        ((s.keyMoved code).takeRaised (closedEvent .key s.changeInFlight)).examineDraining else s.keyMoved code).phase = .running := by
    have taking := (takeRaised_onlyEvents (closedEvent .key s.changeInFlight) (s.keyMoved code)).1.phase.trans still
    split
    · exact ⟨(moved.trans (takeRaised_moves _ (.inl still))).trans (examineDraining_moves (alive_of_running taking)),
        (examineDraining_onlyEvents _).phase.trans taking⟩
    · exact ⟨moved, still⟩
  unfold State.takeKeyCode
  dsimp only
  rw [closed]
  split
  · exact Moves.raise closing.1 closing.2 _
  · exact closing.1

theorem takeLineState_moves (line : LineState) {s : State} (running : s.phase = .running) : Moves c s (s.takeLineState line) := by
  have taken : Moves c s { s with lineIn := ⟨line, none⟩ } := (Move.quiet (lineIn_quiet _ s)).one
  unfold State.takeLineState
  dsimp only
  split
  · exact taken.trans (report_moves _ _ (alive_of_running running))
  · exact taken

end

/-! ### Every command -/

/-- The meaning of a command is a run of its moves. -/
def MovesTo (c : Instr) (s : State) (r : Result) : Prop := ∃ u, r = .next u ∧ Moves c s u

theorem movesTo_next {c : Instr} {s u : State} (moves : Moves c s u) : MovesTo c s (.next u) := ⟨u, rfl, moves⟩

theorem execLinkDown_moves (t : Nat) (p : Port) (order : LinkOrder) (s : State) :
    MovesTo (.linkDown t p order) s (execLinkDown t p order s) := by
  have clocked := clock_moves (c := .linkDown t p order) t s
  have reported (same : (s.clock t).phase.alive = true → ((s.clock t).port p).up = false) :
      Moves (.linkDown t p order) s ((s.clock t).setPhy p false) := clocked.tail (.tables (.phy p false same))
  have phase : ((s.clock t).setPhy p false).phase = (s.clock t).phase := by cases p <;> rfl
  have up : (((s.clock t).setPhy p false).port p).up = ((s.clock t).port p).up := by cases p <;> rfl
  have alive (h : (s.clock t).phase.alive = true) : MovesTo (.linkDown t p order) s
      (if (((s.clock t).setPhy p false).port p).up then .next (((s.clock t).setPhy p false).portDown p order)
        else .next ((s.clock t).setPhy p false)) := by
    split
    · exact movesTo_next (clocked.trans (portDown_moves p t order rfl h))
    · next isDown => exact movesTo_next (reported fun _ => by rw [← up]; simpa using isDown)
  unfold execLinkDown
  dsimp only
  rw [phase]
  split
  case h_1 held => exact movesTo_next (reported fun living => by rw [held] at living; cases living)
  case h_2 held => exact movesTo_next (reported fun living => by rw [held] at living; cases living)
  all_goals next going => exact alive (by rw [going]; rfl)

theorem execLinkUp_moves (t : Nat) (p : Port) (s : State) : MovesTo (.linkUp t p) s (execLinkUp t p s) := by
  have clocked := clock_moves (c := .linkUp t p) t s
  have phase : ((s.clock t).setPhy p true).phase = (s.clock t).phase := by cases p <;> rfl
  have risen : Moves (.linkUp t p) s
      (((s.clock t).setPhy p true).setPort p { ((s.clock t).setPhy p true).port p with up := true, lostAt := none }) := by
    have same : ((s.clock t).setPhy p true).setPort p { ((s.clock t).setPhy p true).port p with up := true, lostAt := none } =
        (s.clock t).setPort p { (s.clock t).port p with phyUp := true, up := true, lostAt := none } := by cases p <;> rfl
    rw [same]
    exact clocked.tail (.tables (.linkUp p))
  unfold execLinkUp
  dsimp only
  rw [phase]
  split
  case h_1 held => exact movesTo_next (clocked.tail (.tables (.phy p true fun living => by rw [held] at living; cases living)))
  case h_2 held => exact movesTo_next (clocked.tail (.tables (.phy p true fun living => by rw [held] at living; cases living)))
  all_goals exact movesTo_next risen

theorem execTransmissionComplete_moves (t : Nat) (p : Port) (s : State) :
    MovesTo (.transmissionComplete t p) s (execTransmissionComplete t p s) := by
  have clocked := clock_moves (c := .transmissionComplete t p) t s
  unfold execTransmissionComplete
  dsimp only
  split
  · next running =>
    split
    · next sent => exact movesTo_next (clocked.trans (completeOn_moves p _ _ running sent))
    · exact movesTo_next clocked
  · exact movesTo_next clocked

theorem dueTxn_some {s : State} {r : TxnRef} {t : Txn} (due : dueTxn s r = some t) :
    t ∈ s.txns ∧ t.ref = r ∧ t.isQueued = false := by
  unfold dueTxn at due
  split at due
  · next found =>
    split at due
    · split at due <;> cases due
      exact findSent_some found
    · cases due
  · cases due

theorem execTransactionDeadline_moves (t : Nat) (n : Fin 32) (tag : Word16) (s : State) :
    MovesTo (.transactionDeadline t n tag) s (execTransactionDeadline t n tag s) := by
  have clocked := clock_moves (c := .transactionDeadline t n tag) t s
  unfold execTransactionDeadline
  dsimp only
  split
  · next running =>
    split
    · next due =>
      obtain ⟨member, -, sent⟩ := dueTxn_some due
      exact movesTo_next (clocked.trans (endTxn_moves _ _ _ running member sent).1)
    · exact movesTo_next clocked
  · exact movesTo_next clocked

theorem pins_quiet (a b l : Bool) (s : State) : Quiet s { s with keyA := a, keyB := b, lstop := l } := rfl

theorem keyShows_quiet (code : KeyCode) (now : Nat) (s : State) : Quiet s { s with key := s.key.shows code now } := by
  have taken : (s.key.shows code now).taken = s.key.taken := by
    unfold Sampled.shows
    split
    · rfl
    · split
      · split <;> rfl
      · rfl
  unfold Quiet
  rw [← taken]

theorem execKeyContactChange_moves (t : Nat) (a b : Bool) (s : State) :
    MovesTo (.keyContactChange t a b) s (execKeyContactChange t a b s) := by
  have pins := (clock_moves (c := .keyContactChange t a b) t s).tail (.quiet (pins_quiet a b (s.clock t).lstop (s.clock t)))
  unfold execKeyContactChange
  dsimp only
  split
  · exact movesTo_next (pins.tail (.quiet (keyShows_quiet _ _ _)))
  · exact movesTo_next pins

theorem execLstopChange_moves (t : Nat) (l : Bool) (s : State) : MovesTo (.lstopChange t l) s (execLstopChange t l s) := by
  have pins := (clock_moves (c := .lstopChange t l) t s).tail (.quiet (pins_quiet (s.clock t).keyA (s.clock t).keyB l (s.clock t)))
  unfold execLstopChange
  dsimp only
  split
  · exact movesTo_next (pins.tail (.quiet (lineIn_quiet _ _)))
  · exact movesTo_next pins

theorem execKeyCodeTaken_moves (t : Nat) (s : State) : MovesTo (.keyCodeTaken t) s (execKeyCodeTaken t s) := by
  have clocked := clock_moves (c := .keyCodeTaken t) t s
  unfold execKeyCodeTaken
  dsimp only
  split
  · next running =>
    split
    · exact movesTo_next (clocked.trans (takeKeyCode_moves _ t running rfl))
    · exact movesTo_next clocked
  · exact movesTo_next clocked

theorem execLineStateTaken_moves (t : Nat) (s : State) : MovesTo (.lineStateTaken t) s (execLineStateTaken t s) := by
  have clocked := clock_moves (c := .lineStateTaken t) t s
  unfold execLineStateTaken
  dsimp only
  split
  · next running =>
    split
    · exact movesTo_next (clocked.trans (takeLineState_moves _ running))
    · exact movesTo_next clocked
  · exact movesTo_next clocked

theorem execWindowDeadline_moves (t : Nat) (s : State) : MovesTo (.windowDeadline t) s (execWindowDeadline t s) := by
  have clocked := clock_moves (c := .windowDeadline t) t s
  unfold execWindowDeadline
  dsimp only
  split
  · next running =>
    split
    · split
      · exact movesTo_next (clocked.trans (closeWindow_moves _ (alive_of_running running)))
      · exact movesTo_next clocked
    all_goals exact movesTo_next clocked
  · exact movesTo_next clocked

theorem execHoldOffDeadline_moves (t : Nat) (s : State) : MovesTo (.holdOffDeadline t) s (execHoldOffDeadline t s) := by
  have clocked := clock_moves (c := .holdOffDeadline t) t s
  unfold execHoldOffDeadline
  dsimp only
  split
  · split
    · next holding =>
      split
      · exact movesTo_next (clocked.tail (.shuts .shut (by rw [holding]; exact Window.noConfusion) rfl))
      · exact movesTo_next clocked
    all_goals exact movesTo_next clocked
  · exact movesTo_next clocked

theorem execTripPulseEnd_moves (t : Nat) (s : State) : MovesTo (.tripPulseEnd t) s (execTripPulseEnd t s) := by
  have clocked := clock_moves (c := .tripPulseEnd t) t s
  have ended : MovesTo (.tripPulseEnd t) s (match (s.clock t).pulseEnd with
      | some e => if e ≤ (s.clock t).now then .next (s.clock t).endTrip else .next (s.clock t)
      | none => .next (s.clock t)) := by
    split
    · split
      · exact movesTo_next (clocked.tail .tripEnds)
      · exact movesTo_next clocked
    · exact movesTo_next clocked
  unfold execTripPulseEnd
  dsimp only
  split
  case h_4 | h_5 => exact ended
  all_goals exact movesTo_next clocked

theorem execSaveEnd_moves (t : Nat) (verified : Bool) (s : State) : MovesTo (.saveEnd t verified) s (execSaveEnd t verified s) := by
  have clocked := clock_moves (c := .saveEnd t verified) t s
  unfold execSaveEnd
  dsimp only
  split
  · next running =>
    split
    · next copy saving =>
      unfold State.endSave
      split
      · exact movesTo_next (clocked.tail (.saved copy saving))
      · exact movesTo_next (Moves.raise (clocked.tail .saveFails) running _)
    all_goals exact movesTo_next clocked
  · exact movesTo_next clocked

theorem completeLoad_moves {c : Instr} (t : Nat) {s : State} (loading : s.phase.loading = true)
    (completes : c = .settingsLoadComplete t) : Moves c s s.completeLoad := by
  have sampled : Moves c s s.sampleInputs := (Move.samples t loading completes).one
  have first : Moves c s (if s.sampleInputs.store.valid then s.sampleInputs else s.sampleInputs.raise storeInvalidEvent) ∧
      (if s.sampleInputs.store.valid then s.sampleInputs else s.sampleInputs.raise storeInvalidEvent).phase = .running := by
    split
    · exact ⟨sampled, rfl⟩
    · exact ⟨Moves.raise sampled rfl _, (raise_onlyEvents _ _).phase⟩
  unfold State.completeLoad State.startEvents
  dsimp only
  generalize (if s.sampleInputs.store.valid then s.sampleInputs else s.sampleInputs.raise storeInvalidEvent) = u at first ⊢
  split
  · exact Moves.raise first.1 first.2 _
  · exact first.1

theorem execSettingsLoadComplete_moves (t : Nat) (s : State) :
    MovesTo (.settingsLoadComplete t) s (execSettingsLoadComplete t s) := by
  have clocked := clock_moves (c := .settingsLoadComplete t) t s
  unfold execSettingsLoadComplete
  dsimp only
  split
  case h_1 | h_2 => next going => exact movesTo_next (clocked.trans (completeLoad_moves t (by rw [going]; rfl) rfl))
  all_goals exact movesTo_next clocked

theorem execReset_moves (s : State) : MovesTo .resetAsserted s (execResetAsserted s) := by
  unfold execResetAsserted
  split
  · exact movesTo_next .refl
  all_goals exact movesTo_next (Move.resets rfl).one

theorem execColdStart_moves (s : State) : MovesTo .coldStart s (execColdStart s) := by
  unfold execColdStart
  split
  case h_1 | h_2 => exact movesTo_next (Move.coldStarts rfl).one
  all_goals exact movesTo_next .refl

/-- The command of a request is a run of its moves. -/
theorem request_movesTo (k : RequestKind) (q : Request) (s : State) : MovesTo (k.command q) s (exec (k.command q) s) := by
  rw [exec_command]
  exact movesTo_next (request_moves k q s (mayCarry_command k q))

/-- Every command is a run of its moves. -/
theorem exec_movesTo (c : Instr) (s : State) : MovesTo c s (exec c s) := by
  cases c
  case frameArrival t p whole octets => exact execFrameArrival_moves t p whole octets s
  case linkDown t p order => exact execLinkDown_moves t p order s
  case linkUp t p => exact execLinkUp_moves t p s
  case transmissionComplete t p => exact execTransmissionComplete_moves t p s
  case transactionDeadline t n tag => exact execTransactionDeadline_moves t n tag s
  case keyContactChange t a b => exact execKeyContactChange_moves t a b s
  case keyCodeTaken t => exact execKeyCodeTaken_moves t s
  case lstopChange t l => exact execLstopChange_moves t l s
  case lineStateTaken t => exact execLineStateTaken_moves t s
  case windowDeadline t => exact execWindowDeadline_moves t s
  case holdOffDeadline t => exact execHoldOffDeadline_moves t s
  case tripPulseEnd t => exact execTripPulseEnd_moves t s
  case saveEnd t verified => exact execSaveEnd_moves t verified s
  case resetAsserted => exact execReset_moves s
  case coldStart => exact execColdStart_moves s
  case settingsLoadComplete t => exact execSettingsLoadComplete_moves t s
  case unknownRequest version kind q =>
    refine movesTo_next (takeManagement_moves version kind q s fun k isVersion isKind => ?_)
    simp [mayCarry, isVersion, isKind]
  case powerLoss => exact movesTo_next (Move.losesPower rfl).one
  case readIdentity q => exact request_movesTo .readIdentity q s
  case readStatus q => exact request_movesTo .readStatus q s
  case loadProfile q => exact request_movesTo .loadProfile q s
  case readProfile q => exact request_movesTo .readProfile q s
  case loadStation q => exact request_movesTo .loadStation q s
  case readStation q => exact request_movesTo .readStation q s
  case clearStation q => exact request_movesTo .clearStation q s
  case loadAreaPolicy q => exact request_movesTo .loadAreaPolicy q s
  case readCounters q => exact request_movesTo .readCounters q s
  case clearCounters q => exact request_movesTo .clearCounters q s
  case loadParameter q => exact request_movesTo .loadParameter q s
  case clearParameter q => exact request_movesTo .clearParameter q s
  case readParameter q => exact request_movesTo .readParameter q s
  case copyActiveToStaged q => exact request_movesTo .copyActiveToStaged q s
  case markStagedReady q => exact request_movesTo .markStagedReady q s
  case activateStaged q => exact request_movesTo .activateStaged q s
  case readImage q => exact request_movesTo .readImage q s
  case forgetImage q => exact request_movesTo .forgetImage q s
  case openWindow q => exact request_movesTo .openWindow q s
  case extendWindow q => exact request_movesTo .extendWindow q s
  case closeWindow q => exact request_movesTo .closeWindow q s
  case grantService q => exact request_movesTo .grantService q s
  case endService q => exact request_movesTo .endService q s
  case quarantineStation q => exact request_movesTo .quarantineStation q s
  case releaseStation q => exact request_movesTo .releaseStation q s
  case takeEvent q => exact request_movesTo .takeEvent q s
  case forceEvent q => exact request_movesTo .forceEvent q s
  case setEventControl q => exact request_movesTo .setEventControl q s
  case lockTables q => exact request_movesTo .lockTables q s
  case unlockTables q => exact request_movesTo .unlockTables q s
  case setManagers q => exact request_movesTo .setManagers q s
  case setPortSettings q => exact request_movesTo .setPortSettings q s
  case setWindowSettings q => exact request_movesTo .setWindowSettings q s
  case saveSettings q => exact request_movesTo .saveSettings q s
  case restart q => exact request_movesTo .restart q s

theorem exec_moves {c : Instr} {s u : State} (taken : exec c s = .next u) : Moves c s u := by
  obtain ⟨v, result, moves⟩ := exec_movesTo c s
  obtain rfl : u = v := Host.Outcome.next.inj (taken.symm.trans result)
  exact moves

/-- What does not read the waiting commands, and is kept by every command, is kept by every step. -/
theorem step_keeps {P : State → Prop} (unread : ∀ (s : State) (l : List Instr), P s → P { s with pending := l })
    (keeps : ∀ (c : Instr) (s u : State), exec c s = .next u → P s → P u) {s u : State} (taken : step s = .next u) (h : P s) :
    P u := by
  unfold step at taken
  split at taken
  · cases taken; exact h
  · next c rest _ => exact keeps c _ u taken (unread s rest h)

end Sys2Proof.Machine

/-! PROOFS. The invariants the moves keep: the identity and the waiting commands (R165), the window and SERVICE (R29, R123),
the event unit (R147 to R150), the station counters (R37), the lock (R164) and the settings. -/

namespace Sys2Proof.Machine

/-! ### What a quiet move leaves -/

section
variable {s u : State} (q : Quiet s u)
include q

theorem Quiet.phase : u.phase = s.phase := by rw [q]
theorem Quiet.alarm : u.alarm = s.alarm := by rw [q]
theorem Quiet.trip : u.trip = s.trip := by rw [q]
theorem Quiet.pulseEnd : u.pulseEnd = s.pulseEnd := by rw [q]
theorem Quiet.identity : u.identity = s.identity := by rw [q]
theorem Quiet.settings : u.settings = s.settings := by rw [q]
theorem Quiet.store : u.store = s.store := by rw [q]
theorem Quiet.save : u.save = s.save := by rw [q]
theorem Quiet.counters : u.counters = s.counters := by rw [q]
theorem Quiet.image : u.image = s.image := by rw [q]
theorem Quiet.txns : u.txns = s.txns := by rw [q]
theorem Quiet.window : u.window = s.window := by rw [q]
theorem Quiet.taken : u.key.taken = s.key.taken := by rw [q]
theorem Quiet.events : u.events = s.events := by rw [q]
theorem Quiet.pending : u.pending = s.pending := by rw [q]

theorem Quiet.port (p : Port) : u.port p =
    { s.port p with arrival := (u.port p).arrival, egress := (u.port p).egress, lostAt := (u.port p).lostAt } := by
  rw [q]
  cases p <;> rfl

end

section
variable {s u : State} (t : OnlyTables s u)
include t

theorem OnlyTables.phase : u.phase = s.phase := by rw [t]
theorem OnlyTables.alarm : u.alarm = s.alarm := by rw [t]
theorem OnlyTables.trip : u.trip = s.trip := by rw [t]
theorem OnlyTables.pulseEnd : u.pulseEnd = s.pulseEnd := by rw [t]
theorem OnlyTables.identity : u.identity = s.identity := by rw [t]
theorem OnlyTables.settings : u.settings = s.settings := by rw [t]
theorem OnlyTables.store : u.store = s.store := by rw [t]
theorem OnlyTables.save : u.save = s.save := by rw [t]
theorem OnlyTables.counters : u.counters = s.counters := by rw [t]
theorem OnlyTables.window : u.window = s.window := by rw [t]
theorem OnlyTables.key : u.key = s.key := by rw [t]
theorem OnlyTables.events : u.events = s.events := by rw [t]
theorem OnlyTables.pending : u.pending = s.pending := by rw [t]

end

theorem takeRaised_events (r : Raised) (s : State) : OnlyEvents s (s.takeRaised r) := (takeRaised_onlyEvents r s).1

theorem takeRaised_window (r : Raised) (s : State) : (s.takeRaised r).window = s.window := (takeRaised_onlyEvents r s).2

/-! ### The identity and the waiting commands -/

theorem Move.pending_identity {c : Instr} {s u : State} (m : Move c s u) : u.pending = s.pending ∧ u.identity = s.identity := by
  cases m
  case quiet q => exact ⟨q.pending, q.identity⟩
  case tables t => exact ⟨t.onlyTables.pending, t.onlyTables.identity⟩
  case raised r _ => exact ⟨(takeRaised_events r s).pending, (takeRaised_events r s).identity⟩
  all_goals exact ⟨rfl, rfl⟩

/-- Settles O2: every command is a run of moves, and no move touches the identity or the waiting commands. -/
theorem everyCommandAnswersNext : Obligations.EveryCommandAnswersNext := by
  unfold Obligations.EveryCommandAnswersNext
  intro c s
  obtain ⟨u, taken, moves⟩ := exec_movesTo c s
  have kept : u.pending = s.pending ∧ u.identity = s.identity :=
    moves.keep (P := fun x => x.pending = s.pending ∧ x.identity = s.identity)
      (fun _ _ m h => ⟨m.pending_identity.1.trans h.1, m.pending_identity.2.trans h.2⟩) ⟨rfl, rfl⟩
  exact ⟨u, taken, kept⟩

/-- Settles O1: both clauses are the two equations of `step`. -/
theorem stepTakesFrontCommand : Obligations.StepTakesFrontCommand := by
  unfold Obligations.StepTakesFrontCommand
  refine ⟨fun _ _ _ => rfl, fun s empty => ?_⟩
  unfold step
  rw [empty]

/-! ### The window and SERVICE -/

theorem WindowSound.congr {s u : State} (h : WindowSound s) (window : u.window = s.window) (taken : u.key.taken = s.key.taken)
    (phase : u.phase = s.phase) : WindowSound u where
  key := by rw [window, State.keyPosition, taken]; exact h.key
  length := by rw [window]; exact h.length
  loading := by rw [window, phase]; exact h.loading

theorem windowSound_of_shut {s : State} (shut : s.window = .shut) : WindowSound s where
  key := by rw [shut]; exact Bool.noConfusion
  length o d := by rw [shut]; exact Window.noConfusion
  loading _ := shut

theorem Move.windowSound {c : Instr} {s u : State} (m : Move c s u) (h : WindowSound s) : WindowSound u := by
  cases m
  case quiet q => exact h.congr q.window q.taken q.phase
  case tables t =>
    have t := t.onlyTables
    exact h.congr t.window (congrArg _ t.key) t.phase
  case raised r _ =>
    have e := takeRaised_events r s
    exact h.congr (takeRaised_window r s) (congrArg _ e.key) e.phase
  case shuts w was closed =>
    exact ⟨fun isOpen => absurd (closed.symm.trans isOpen) (by decide),
      fun o d equal => absurd (closed.symm.trans (congrArg Window.isOpen equal)) (by simp [Window.isOpen]),
      fun loading => absurd (h.loading loading) was⟩
  case opens o d running key length =>
    refine ⟨fun _ => key.elim id h.key, ?_, fun loading => ?_⟩
    · rintro o' d' ⟨⟩
      exact length
    · rw [running] at loading; cases loading
  case keyTaken code t running _ =>
    refine ⟨fun isOpen => ?_, fun o d equal => ?_, fun loading => ?_⟩
    · simp only [State.keyMoved] at isOpen
      split at isOpen
      · cases isOpen
      · next stays => exact by_contra fun moved => stays ⟨h.key isOpen, moved, isOpen⟩
    · simp only [State.keyMoved] at equal
      split at equal
      · cases equal
      · exact h.length o d equal
    · rw [show (s.keyMoved code).phase = s.phase from rfl, running] at loading; cases loading
  case samples t loading _ => exact windowSound_of_shut (h.loading loading)
  case warmStarts | resets | coldStarts | losesPower => exact windowSound_of_shut rfl
  all_goals exact h.congr rfl rfl rfl

theorem ServiceSound.congr {s u : State} (h : ServiceSound s) (stations : u.settings.stations = s.settings.stations)
    (taken : u.key.taken = s.key.taken) (phase : u.phase = s.phase) : ServiceSound u where
  key n := by rw [station_eq, stations, State.keyPosition, taken]; exact h.key n
  loading := by rw [phase]; intro loading n; rw [station_eq, stations]; exact h.loading loading n

theorem serviceSound_of_none {s : State} (none : ∀ n : Fin 32, (s.station n).state ≠ .service) : ServiceSound s :=
  ⟨fun n service => absurd service (none n), fun _ => none⟩

theorem storedStations_getElem (v : Vector StationEntry 32) (n : Fin 32) :
    (storedStations v)[n] = { v[n] with state := v[n].state.stored } := by
  simp [storedStations]

theorem stored_ne_service (x : StationState) : x.stored ≠ .service := by cases x <;> exact StationState.noConfusion

/-- No start loads a station in SERVICE (R23). -/
theorem load_ne_service (st : Store) (n : Fin 32) : st.load.stations[n].state ≠ .service := by
  unfold Store.load
  split
  · simp only [Settings.stored, storedStations_getElem]
    exact stored_ne_service _
  · simp [defaultSettings, defaultStation]

theorem endAllService_getElem (v : Vector StationEntry 32) (n : Fin 32) : (endAllService v)[n] =
    if v[n].inUse ∧ v[n].state = .service then { v[n] with state := .normal } else v[n] := by
  simp [endAllService]

theorem Move.serviceSound {c : Instr} {s u : State} (m : Move c s u) (h : ServiceSound s) : ServiceSound u := by
  cases m
  case quiet q => exact h.congr (congrArg _ q.settings) q.taken q.phase
  case tables t =>
    have t := t.onlyTables
    exact h.congr (congrArg _ t.settings) (congrArg _ t.key) t.phase
  case raised r _ =>
    have e := takeRaised_events r s
    exact h.congr (congrArg _ e.settings) (congrArg _ e.key) e.phase
  case keyTaken code t running _ =>
    refine ⟨fun n service => ?_, fun loading => ?_⟩
    · simp only [station_eq, State.keyMoved] at service ⊢
      split at service
      · simp only [State.leaveService, endAllService_getElem] at service
        split at service
        · cases service
        · next stays => exact absurd ⟨(h.key n service).1, service⟩ stays
      · next stays =>
        obtain ⟨used, key⟩ := h.key n service
        rw [if_neg stays]
        exact ⟨used, by_contra fun moved => stays ⟨key, moved⟩⟩
    · rw [show (s.keyMoved code).phase = s.phase from rfl, running] at loading; cases loading
  case stationState n v service =>
    have entry (i : Fin 32) : (s.setStationState n v).station i = if i = n then { s.station n with state := v } else s.station i :=
      set_getElem_fin _ _ _ _
    refine ⟨fun i => ?_, fun loading i => ?_⟩
    · rw [entry]
      split
      · exact fun granted => (service granted).1
      · exact h.key i
    · rw [entry]
      split
      · intro granted
        rw [show (s.setStationState n v).phase = s.phase from rfl, (service granted).2] at loading
        cases loading
      · exact h.loading loading i
  case configures st conf _ =>
    refine ⟨fun n service => ?_, fun loading n service => ?_⟩
    · obtain ⟨old, used⟩ := conf.service n service
      exact ⟨used (h.key n old).1, (h.key n old).2⟩
    · exact h.loading loading n (conf.service n service).1
  case controls st conf =>
    refine ⟨fun n service => ?_, fun loading n service => ?_⟩
    · obtain ⟨old, used⟩ := conf.service n service
      exact ⟨used (h.key n old).1, (h.key n old).2⟩
    · exact h.loading loading n (conf.service n service).1
  case warmStarts => exact serviceSound_of_none fun n => load_ne_service s.store n
  case coldStarts => exact serviceSound_of_none fun n => load_ne_service s.store n
  case losesPower => exact serviceSound_of_none fun n => by simp [station_eq, State.losePower, State.cleared, defaultSettings, defaultStation]
  case resets => exact ⟨h.key, Bool.noConfusion⟩
  case samples t loading _ => exact serviceSound_of_none (h.loading loading)
  all_goals exact h.congr rfl rfl rfl

/-- Settles O57: each move keeps both, the window's because it opens only in CHANGEOVER and closes when that is left,
SERVICE because it is granted only in SERVICE and ends when that is left. -/
theorem windowAndServiceKept : Obligations.WindowAndServiceKept := by
  unfold Obligations.WindowAndServiceKept
  intro s s' taken window service
  have kept : WindowSound s' ∧ ServiceSound s' := step_keeps (P := fun x => WindowSound x ∧ ServiceSound x)
    (fun x _ h => ⟨h.1.congr rfl rfl rfl, h.2.congr rfl rfl rfl⟩)
    (fun c x y exec_ => (exec_moves exec_).keep (P := fun x => WindowSound x ∧ ServiceSound x)
      fun _ _ m h => ⟨m.windowSound h.1, m.serviceSound h.2⟩) taken ⟨window, service⟩
  exact kept

/-! ### The event unit -/

theorem alarmLevel_iff (events : List EventRecord) (mask : Nat) :
    alarmLevel events mask = true ↔ ∃ e ∈ events, mask < e.effective := by
  simp [alarmLevel]

theorem EventUnitSound.congr {s u : State} (h : EventUnitSound s) (events : u.events = s.events) (alarm : u.alarm = s.alarm)
    (mask : u.settings.alarmMask = s.settings.alarmMask) (trip : u.trip = s.trip) (pulseEnd : u.pulseEnd = s.pulseEnd) :
    EventUnitSound u where
  bounded := by rw [events]; exact h.bounded
  alarm := by rw [events, alarm, mask]; exact h.alarm
  trip := by rw [trip, pulseEnd]; exact h.trip

/-- ALARM re-evaluated is as it should be. -/
theorem reAlarm_sound {s : State} (bounded : s.events.length ≤ 32) (trip : s.trip = true ↔ s.pulseEnd ≠ none) :
    EventUnitSound s.reAlarm := ⟨bounded, alarmLevel_iff _ _, trip⟩

theorem entryOf_length {s : State} (e : EventRecord) (bounded : s.events.length ≤ 32) : (entryOf s e).events.length ≤ 32 := by
  unfold entryOf
  split
  · exact enterQueue_length _ _ _ bounded
  · exact bounded

/-- What the taking of a raised event leaves of the event unit: the queue takes an entry, ALARM follows it, and TRIP moves
for level 7 alone. -/
theorem takeRaised_unit (r : Raised) (s : State) :
    ∃ t : State, (t = s ∨ t = s.startTrip) ∧ (s.takeRaised r).events = (entryOf s (makeRecord s.settings s.now r)).events ∧
      (s.takeRaised r).alarm = alarmLevel (entryOf s (makeRecord s.settings s.now r)).events s.settings.alarmMask ∧
      (s.takeRaised r).trip = t.trip ∧ (s.takeRaised r).pulseEnd = t.pulseEnd := by
  have noticed (x : State) (e : EventRecord) (b : Bool) : (if b then x.sendNotice e else x).events = x.events ∧
      (if b then x.sendNotice e else x).alarm = x.alarm ∧ (if b then x.sendNotice e else x).trip = x.trip ∧
      (if b then x.sendNotice e else x).pulseEnd = x.pulseEnd := by
    have ports := sendNotice_onlyPorts e x
    cases b
    · exact ⟨rfl, rfl, rfl, rfl⟩
    · rw [if_pos rfl, ports]
      exact ⟨rfl, rfl, rfl, rfl⟩
  unfold State.takeRaised
  dsimp only
  generalize makeRecord s.settings s.now r = e
  by_cases level : e.effective = 7
  · simp only [level, if_true, noticed]
    exact ⟨s.startTrip, .inr rfl, rfl, rfl, rfl, rfl⟩
  · simp only [level, if_false, noticed]
    exact ⟨s, .inl rfl, rfl, rfl, rfl, rfl⟩

theorem Move.eventUnitSound {c : Instr} {s u : State} (m : Move c s u) (h : EventUnitSound s) : EventUnitSound u := by
  have atRest {x : State} (events : x.events = []) (alarm : x.alarm = false) (trip : x.trip = false)
      (pulseEnd : x.pulseEnd = none) : EventUnitSound x :=
    ⟨by simp [events], by simp [events, alarm], by simp [trip, pulseEnd]⟩
  cases m
  case quiet q => exact h.congr q.events q.alarm (congrArg _ q.settings) q.trip q.pulseEnd
  case tables t =>
    have t := t.onlyTables
    exact h.congr t.events t.alarm (congrArg _ t.settings) t.trip t.pulseEnd
  case raised r _ =>
    obtain ⟨t, same, events, alarm, trip, pulseEnd⟩ := takeRaised_unit r s
    refine ⟨?_, ?_, ?_⟩
    · rw [events]; exact entryOf_length _ h.bounded
    · rw [events, alarm, (takeRaised_events r s).settings]; exact alarmLevel_iff _ _
    · rw [trip, pulseEnd]
      rcases same with rfl | rfl
      · exact h.trip
      · simp
  case tripEnds => exact ⟨h.bounded, h.alarm, by simp⟩
  case configures st _ mask => exact h.congr rfl rfl mask rfl rfl
  case controls => exact reAlarm_sound h.bounded h.trip
  case takes e rest _ taken =>
    have fewer := (takeHighest_perm _ _ _ taken).1.length_eq
    have bounded := h.bounded
    exact reAlarm_sound (by simp only [List.length_cons] at fewer ⊢; omega) h.trip
  case warmStarts => exact reAlarm_sound h.bounded h.trip
  case keyTaken => exact h.congr rfl rfl (by simp only [State.keyMoved]; split <;> rfl) rfl rfl
  case resets | coldStarts | losesPower => exact atRest rfl rfl rfl rfl
  all_goals exact h.congr rfl rfl rfl rfl rfl

/-- An entry displaces only events below level 7. -/
theorem entryOf_count (s : State) (x e : EventRecord) (level : e.effective = 7) :
    s.events.count e ≤ (entryOf s x).events.count e := by
  unfold entryOf
  split
  · rcases enterQueue_cases s.events s.lost x with ⟨-, entered⟩ | ⟨-, entered⟩ | ⟨-, l, others, taken, below, -, entered⟩ <;>
      rw [entered]
    · rw [List.count_append]; exact Nat.le_add_right _ _
    · have perm := (takeLowest_perm _ _ _ taken).1.count_eq e
      have differ : l ≠ e := fun same => by rw [same, level] at below; exact absurd below (by decide)
      rw [List.count_cons_of_ne differ] at perm
      rw [List.count_append, perm]
      exact Nat.le_add_right _ _
  · exact le_refl _

theorem Move.levelSeven_count {c : Instr} {s u : State} (m : Move c s u) (keeps : clearsAll c = false)
    (leaves : mayCarry .takeEvent c = false) {e : EventRecord} (level : e.effective = 7) :
    s.events.count e ≤ u.events.count e := by
  cases m
  case quiet q => rw [q.events]
  case tables t => rw [t.onlyTables.events]
  case raised r _ =>
    obtain ⟨t, -, events, -⟩ := takeRaised_unit r s
    rw [events]
    exact entryOf_count s _ e level
  case takes asked _ => exact absurd (leaves.symm.trans asked) (by decide)
  case resets all | coldStarts all | losesPower all => exact absurd (keeps.symm.trans all) (by decide)
  all_goals exact le_refl _

/-- Settles O52: an entry keeps the bound and ALARM follows every change of queue or mask; no entry displaces an event of
level 7. -/
theorem eventQueueKept : Obligations.EventQueueKept := by
  unfold Obligations.EventQueueKept
  refine ⟨fun s s' taken h => ?_, fun c s s' taken keeps leaves e level => ?_⟩
  · exact step_keeps (fun x _ h => h.congr rfl rfl rfl rfl rfl)
      (fun c x y exec_ => (exec_moves exec_).keep fun _ _ m => m.eventUnitSound) taken h
  · exact (exec_moves taken).keep (P := fun x => s.events.count e ≤ x.events.count e)
      (fun _ _ m so_far => so_far.trans (m.levelSeven_count keeps leaves level)) (le_refl _)

/-! ### Station counters -/

/-- No counter of `a` is above that of `b`. -/
def CountersLe (a b : StationCounters) : Prop :=
  a.admitted.toNat ≤ b.admitted.toNat ∧ a.clamped.toNat ≤ b.clamped.toNat ∧ a.refused.toNat ≤ b.refused.toNat ∧
    a.drift.toNat ≤ b.drift.toNat

theorem CountersLe.refl (a : StationCounters) : CountersLe a a := ⟨le_refl _, le_refl _, le_refl _, le_refl _⟩

theorem CountersLe.trans {a b c : StationCounters} (h : CountersLe a b) (k : CountersLe b c) : CountersLe a c :=
  ⟨h.1.trans k.1, h.2.1.trans k.2.1, h.2.2.1.trans k.2.2.1, h.2.2.2.trans k.2.2.2⟩

theorem Move.counters_le {c : Instr} {s u : State} (m : Move c s u) (keeps : clearsAll c = false)
    (leaves : mayCarry .clearCounters c = false) (n : Fin 32) : CountersLe s.counters[n] u.counters[n] := by
  cases m
  case quiet q => rw [q.counters]; exact .refl _
  case tables t => rw [t.onlyTables.counters]; exact .refl _
  case raised r _ => rw [(takeRaised_events r s).counters]; exact .refl _
  case counts i cs grows =>
    have entry : (s.setCounters i cs).counters[n] = if n = i then cs else s.counters[n] := set_getElem_fin _ _ _ _
    rw [entry]
    split
    · next same => subst same; exact grows
    · exact .refl _
  case clears asked => exact absurd (leaves.symm.trans asked) (by decide)
  case resets all | coldStarts all | losesPower all => exact absurd (keeps.symm.trans all) (by decide)
  all_goals exact .refl _

/-- Settles O53: a counter moves only by its own increments, which saturate. -/
theorem stationCountersNeverFall : Obligations.StationCountersNeverFall := by
  unfold Obligations.StationCountersNeverFall
  intro c s s' taken keeps leaves n
  exact (exec_moves taken).keep (P := fun x => CountersLe s.counters[n] x.counters[n])
    (fun _ _ m so_far => so_far.trans (m.counters_le keeps leaves n)) (.refl _)

/-! ### The table lock -/

theorem sameTables_refl (a : Settings) : sameTables a a := ⟨rfl, fun _ => rfl⟩

theorem sameTables.trans {a b d : Settings} (h : sameTables a b) (k : sameTables b d) : sameTables a d := by
  refine ⟨?_, fun n => ?_⟩
  · rw [h.1, k.1]
  · rw [h.2 n, k.2 n]

/-- The tables agree where only the states of stations differ. -/
theorem sameTables_stations {a : Settings} {v : Vector StationEntry 32}
    (states : ∀ n : Fin 32, v[n] = { a.stations[n] with state := v[n].state }) : sameTables { a with stations := v } a :=
  ⟨rfl, states⟩

theorem sameTables_endAllService (a : Settings) : sameTables { a with stations := endAllService a.stations } a := by
  refine sameTables_stations fun n => ?_
  rw [endAllService_getElem]
  split <;> rfl

theorem sameTables_setStationState (s : State) (n : Fin 32) (v : StationState) :
    sameTables (s.setStationState n v).settings s.settings := by
  refine sameTables_stations fun m => ?_
  rw [set_getElem_fin]
  split
  · next same => subst same; rfl
  · rfl

/-- Under the lock with the key in RUN, while the part runs. -/
structure LockedLike (a : Settings) (s : State) : Prop where
  lock : s.settings.lock = .locked
  tables : sameTables s.settings a
  key : s.keyPosition = .run

theorem LockedLike.congr {a : Settings} {s u : State} (h : LockedLike a s) (settings : u.settings = s.settings)
    (taken : u.key.taken = s.key.taken) : LockedLike a u :=
  ⟨by rw [settings]; exact h.lock, by rw [settings]; exact h.tables, by rw [State.keyPosition, taken]; exact h.key⟩

theorem Move.locked {c : Instr} {s u : State} (m : Move c s u) (other : ∀ t, c ≠ .keyCodeTaken t ∧ c ≠ .settingsLoadComplete t)
    {a : Settings} (h : s.phase = .running → LockedLike a s) : u.phase = .running → LockedLike a u := by
  have barred (running : s.phase = .running) : ¬ (s.settings.lock = .unlocked ∨ s.keyPosition ≠ .run) := by
    rintro (lock | key)
    · exact Lock.noConfusion (lock.symm.trans (h running).lock)
    · exact key (h running).key
  have configured {st : Settings} (conf : Configures s st) (running : s.phase = .running) : LockedLike a { s with settings := st } := by
    rcases conf.tables with opened | ⟨lock, same⟩
    · exact absurd opened (barred running)
    · exact ⟨lock, same.trans (h running).tables, (h running).key⟩
  cases m
  case quiet q => rw [q.phase]; exact fun running => (h running).congr q.settings q.taken
  case tables t =>
    have t := t.onlyTables
    rw [t.phase]
    exact fun running => (h running).congr t.settings (congrArg _ t.key)
  case raised r _ =>
    have e := takeRaised_events r s
    rw [e.phase]
    exact fun running => (h running).congr e.settings (congrArg _ e.key)
  case keyTaken t _ taken => exact absurd taken (other t).1
  case samples t _ completes => exact absurd completes (other t).2
  case stationState n v _ =>
    exact fun running => ⟨(h running).lock, (sameTables_setStationState s n v).trans (h running).tables, (h running).key⟩
  case swaps _ allowed => exact fun running => absurd allowed (barred running)
  case configures st conf _ => exact configured conf
  case controls st conf => exact fun running => (configured conf running).congr rfl rfl
  case warmStarts | resets | coldStarts | losesPower => exact Phase.noConfusion
  all_goals exact fun running => (h running).congr rfl rfl

/-- The taking of a key code ends SERVICE where the position leaves it, and moves no other setting (R115). -/
theorem takeKeyCode_settings (code : KeyCode) (s : State) : (s.takeKeyCode code).settings = s.settings ∨
    (s.takeKeyCode code).settings = { s.settings with stations := endAllService s.settings.stations } := by
  have closed (x : State) : (if s.key.taken.position = .changeover ∧ code.position ≠ .changeover then x.closeWindow .key
      else x).settings = x.settings := by
    split
    · exact (closeWindow_onlyEvents _ x).settings
    · rfl
  have raised (x : State) : (if code = .fault ∧ s.key.taken ≠ .fault then x.raise (keyFaultEvent (some s.key.taken.position))
      else x).settings = x.settings := by
    split
    · exact (raise_onlyEvents _ x).settings
    · rfl
  unfold State.takeKeyCode
  dsimp only
  rw [raised, closed]
  split
  · exact .inr rfl
  · exact .inl rfl

theorem takeKeyCode_locked {s : State} (code : KeyCode) (lock : s.settings.lock = .locked) :
    (s.takeKeyCode code).settings.lock = .locked ∧ sameTables (s.takeKeyCode code).settings s.settings := by
  rcases takeKeyCode_settings code s with same | same <;> rw [same]
  · exact ⟨lock, sameTables_refl _⟩
  · exact ⟨lock, sameTables_endAllService _⟩

theorem exec_locked {c : Instr} {s s' : State} (taken : exec c s = .next s') (running : s.phase = .running)
    (running' : s'.phase = .running) (lock : s.settings.lock = .locked) (key : s.keyPosition = .run) :
    s'.settings.lock = .locked ∧ sameTables s'.settings s.settings := by
  have unmoved (t : Nat) : (s.clock t).settings.lock = .locked ∧ sameTables (s.clock t).settings s.settings := by
    rw [clock_settings]; exact ⟨lock, sameTables_refl _⟩
  by_cases other : ∀ t, c ≠ .keyCodeTaken t ∧ c ≠ .settingsLoadComplete t
  · have kept : s'.phase = .running → LockedLike s.settings s' :=
      (exec_moves taken).keep (P := fun x => x.phase = .running → LockedLike s.settings x) (fun _ _ m => m.locked other)
        fun _ => ⟨lock, sameTables_refl _, key⟩
    exact ⟨(kept running').lock, (kept running').tables⟩
  · push Not at other
    obtain ⟨t, special⟩ := other
    by_cases isKey : c = .keyCodeTaken t
    · subst isKey
      simp only [exec, execKeyCodeTaken, clock_phase, running, if_true] at taken
      split at taken
      · cases taken
        have moved := takeKeyCode_locked (s := s.clock t) ‹_› (by rw [clock_settings]; exact lock)
        rwa [clock_settings] at moved
      · cases taken; exact unmoved t
    · obtain rfl := special isKey
      simp only [exec, execSettingsLoadComplete, clock_phase, running] at taken
      cases taken
      exact unmoved t

/-- Settles O59: a request that writes a table asks for the lock open or the key out of RUN; what else moves settings moves
station states. -/
theorem lockedTablesHold : Obligations.LockedTablesHold := by
  unfold Obligations.LockedTablesHold
  intro s s' taken running running' lock key
  unfold step at taken
  split at taken
  · cases taken; exact ⟨lock, sameTables_refl _⟩
  · next rest _ => exact exec_locked (s := { s with pending := rest }) taken running running' lock key

/-! ### Settings -/

/-- A consistency of settings that every start and every station state keeps. -/
structure TableProperty (P : Settings → Prop) : Prop where
  tables : ∀ a b : Settings, sameTables a b → P b → P a
  default : P defaultSettings
  swap : ∀ a : Settings, P a → P { a with active := a.active.other, stagedReady := false }

theorem sameTables_stored (a : Settings) : sameTables a.stored a :=
  sameTables_stations fun n => by rw [storedStations_getElem]

theorem TableProperty.load {P : Settings → Prop} (p : TableProperty P) {st : Store} (h : P st.contents) : P st.load := by
  unfold Store.load
  split
  · exact p.tables _ _ (sameTables_stored _) h
  · exact p.default

theorem EverySettings.congr {P : Settings → Prop} {s u : State} (h : EverySettings P s) (settings : u.settings = s.settings)
    (store : u.store = s.store) (save : u.save = s.save) : EverySettings P u where
  working := by rw [settings]; exact h.working
  stored := by rw [store]; exact h.stored
  copy := by rw [save]; exact h.copy

/-- A move keeps what every request keeps of the settings. -/
theorem Move.everySettings {P : Settings → Prop} (p : TableProperty P) {c : Instr} {s u : State} (m : Move c s u)
    (requests : ∀ st, Configures s st → P s.settings → P st) (h : EverySettings P s) : EverySettings P u := by
  have begun {x : State} (working : P x.settings) (store : x.store = s.store) (save : x.save = .idle) : EverySettings P x :=
    ⟨working, by rw [store]; exact h.stored, fun c saving => by rw [save] at saving; cases saving⟩
  cases m
  case quiet q => exact h.congr q.settings q.store q.save
  case tables t => exact h.congr t.onlyTables.settings t.onlyTables.store t.onlyTables.save
  case raised r _ => exact h.congr (takeRaised_events r s).settings (takeRaised_events r s).store (takeRaised_events r s).save
  case warmStarts => exact begun (p.tables _ _ ⟨rfl, fun _ => rfl⟩ (p.load h.stored)) rfl rfl
  case keyTaken code t _ _ =>
    refine ⟨?_, h.stored, h.copy⟩
    simp only [State.keyMoved]
    split
    · exact p.tables _ _ (sameTables_endAllService _) h.working
    · exact h.working
  case saves => exact ⟨h.working, h.stored, fun c saving => by cases saving; exact p.tables _ _ (sameTables_stored _) h.working⟩
  case saved copy saving => exact ⟨h.working, h.copy copy saving, fun c saving => by cases saving⟩
  case saveFails => exact ⟨h.working, h.stored, fun c saving => by cases saving⟩
  case resets => exact begun h.working rfl rfl
  case coldStarts => exact begun (p.load h.stored) rfl rfl
  case losesPower => exact begun p.default rfl rfl
  case stationState n v _ => exact ⟨p.tables _ _ (sameTables_setStationState s n v) h.working, h.stored, h.copy⟩
  case swaps => exact ⟨p.swap _ h.working, h.stored, h.copy⟩
  case configures st conf _ => exact ⟨requests st conf h.working, h.stored, h.copy⟩
  case controls st conf => exact ⟨requests st conf h.working, h.stored, h.copy⟩
  all_goals exact h.congr rfl rfl rfl

theorem bankSound_empty : BankSound emptyBank :=
  ⟨fun i r holds => by simp [emptyBank] at holds, fun i j r r' holds => by simp [emptyBank] at holds⟩

theorem banks_tableProperty : TableProperty fun st => BankSound st.bankA ∧ BankSound st.bankB where
  tables a b same h := by rw [same.1]; exact h
  default := ⟨bankSound_empty, bankSound_empty⟩
  swap _ h := h

theorem sameTables.sameAddresses {a b : Settings} (same : sameTables a b) : SameAddresses a.stations b.stations := fun n => by
  rw [same.2 n]
  exact fun used => ⟨used, rfl, rfl, rfl⟩

theorem stations_tableProperty : TableProperty stationsDistinct where
  tables _ _ same h := same.sameAddresses.distinct h
  default i j _ used := by simp [defaultSettings, defaultStation] at used
  swap _ h := h

theorem defaultSettings_ranges (own : Mac) : RangesGood own defaultSettings where
  profiles i used := by simp [defaultSettings, defaultProfile] at used
  profilesDiffer i j _ used := by simp [defaultSettings, defaultProfile] at used
  addresses n used := by simp [defaultSettings, defaultStation] at used
  mask := Nat.zero_le _
  holdOff := by decide
  shares := by decide
  managementType := by decide
  promotion k named := by simp [defaultSettings] at named
  slotsDiffer _ := rfl
  managers i m holds := by simp [defaultSettings] at holds
  notice d set := by simp [defaultSettings] at set

theorem ranges_tableProperty (own : Mac) : TableProperty (RangesGood own) where
  tables a b same h := by
    have addresses := same.sameAddresses.addresses h
    rw [same.1] at addresses ⊢
    exact { h with addresses := addresses }
  default := defaultSettings_ranges own
  swap _ h := { h with }

theorem shares_le {own : Mac} {st : Settings} (h : RangesGood own st) (p : Port) : (st.port p).share ≤ 16 := by
  cases p
  · exact h.shares.2.1
  · exact h.shares.2.2.2

/-- Both run counts within bounds (R137). -/
def RunCountsFit (s : State) : Prop := ∀ p : Port, (s.port p).runCount ≤ 16

theorem setPort_runCountsFit {s : State} (h : RunCountsFit s) {p : Port} {ps : PortState} (fits : ps.runCount ≤ 16) :
    RunCountsFit (s.setPort p ps) := by
  intro p'
  cases p <;> cases p'
  · exact fits
  · exact h .L
  · exact h .P
  · exact fits

theorem RunCountsFit.congr {s u : State} (h : RunCountsFit s) (ports : ∀ p : Port, u.port p = s.port p) : RunCountsFit u := fun p => by
  rw [ports]; exact h p

theorem TableMove.runCountsFit {c : Instr} {s u : State} (m : TableMove c s u) {own : Mac} (ranges : RangesGood own s.settings)
    (h : RunCountsFit s) : RunCountsFit u := by
  cases m with
  | hands p k f => exact setPort_runCountsFit h (handOver_runCount (shares_le ranges p) (h p))
  | admits t listed octets =>
    refine RunCountsFit.congr (setPort_runCountsFit (p := .L) h
      (handOver_runCount (now := s.now) (k := .ordinary) (f := forwardedFrame octets (some t.ref)) (shares_le ranges .L) (h .L)))
      fun p => ?_
    unfold State.admitted
    rw [holdSlots_image]
    cases p <;> rfl
  | ends t o => rw [releaseSlots_image]; exact h.congr fun p => by cases p <;> rfl
  | sends p f after running sent =>
    obtain ⟨-, -, -, same, -⟩ := complete_cases sent
    have count : ((s.setPort p after).port p).runCount ≤ 16 := by rw [setPort_port_self, same]; exact h p
    refine RunCountsFit.congr (setPort_runCountsFit (p := p) h (select_runCount (ps := after) (shares_le ranges p) ?_)) fun p' => ?_
    · rw [same]; exact h p
    · unfold State.frameSent State.selectOn
      split <;> cases p <;> cases p' <;> rfl
  | losesLink p => exact setPort_runCountsFit h (Nat.zero_le _)
  | phy p up => exact setPort_runCountsFit h (h p)
  | linkUp p => exact setPort_runCountsFit h (h p)
  | image => exact h.congr fun p => by cases p <;> rfl

theorem Move.rangesSound {c : Instr} {s u : State} (m : Move c s u) (h : RangesSound s) : RangesSound u := by
  have settings : EverySettings (RangesGood u.identity.address) u := by
    rw [m.pending_identity.2]
    exact m.everySettings (ranges_tableProperty _) (fun st conf => conf.ranges) h.settings
  have counts : RunCountsFit s := fun p => by cases p; exacts [h.runCounts.1, h.runCounts.2]
  have fresh {x : State} (p : x.portP.runCount = 0) (l : x.portL.runCount = 0) : RunCountsFit x := fun port => by
    cases port
    · exact p.le.trans (Nat.zero_le _)
    · exact l.le.trans (Nat.zero_le _)
  have fit : RunCountsFit u := by
    cases m
    case quiet q => exact fun p => by rw [q.port p]; exact counts p
    case tables t => exact t.runCountsFit h.settings.working counts
    case raised r _ =>
      exact fun p => takeRaised_port (Q := fun ps => ps.runCount ≤ 16) r
        (fun _ _ _ _ _ _ => handOver_runCount (shares_le h.settings.working p)) (counts p)
    case warmStarts | resets | coldStarts | losesPower => exact fresh rfl rfl
    case samples => exact fun p => by cases p; exacts [counts .P, counts .L]
    all_goals exact counts
  have save : u.saving = true → u.store.mark = false := by
    cases m
    case quiet q => rw [State.saving, q.save, q.store]; exact h.save
    case tables t => rw [State.saving, t.onlyTables.save, t.onlyTables.store]; exact h.save
    case raised r _ => rw [State.saving, (takeRaised_events r s).save, (takeRaised_events r s).store]; exact h.save
    case saves => exact fun _ => rfl
    case saved | warmStarts | resets | coldStarts | losesPower => exact Bool.noConfusion
    case saveFails => exact Bool.noConfusion
    all_goals exact h.save
  exact ⟨settings, ⟨fit .P, fit .L⟩, save⟩

/-- Settles O58: what a request writes keeps each consistency, and starts, saves and station states keep them by
`TableProperty`. -/
theorem settingsKept : Obligations.SettingsKept := by
  unfold Obligations.SettingsKept
  intro s s' taken
  refine ⟨fun h => ?banks, fun h => ?stations, fun h => ?ranges⟩
  case banks =>
    exact step_keeps (P := BanksSound) (fun x _ h => h.congr rfl rfl rfl)
      (fun c x y exec_ => (exec_moves exec_).keep fun _ _ m => m.everySettings banks_tableProperty fun st conf => conf.banks) taken h
  case stations =>
    exact step_keeps (P := StationsSound) (fun x _ h => h.congr rfl rfl rfl)
      (fun c x y exec_ => (exec_moves exec_).keep fun _ _ m => m.everySettings stations_tableProperty fun st conf => conf.stations)
      taken h
  case ranges =>
    exact step_keeps (P := RangesSound) (fun x _ h => ⟨h.settings.congr rfl rfl rfl, h.runCounts, h.save⟩)
      (fun c x y exec_ => (exec_moves exec_).keep fun _ _ m => m.rangesSound) taken h

end Sys2Proof.Machine

/-! PROOFS. The invariants of the ports (R132, R136, R141), of the transaction table and the image (R79, R94, R95), and of the
marks (R96, R98). -/

namespace Sys2Proof.Machine

/-! ### Ports -/

theorem setPort_port_cases (p p' : Port) (ps : PortState) (s : State) :
    (s.setPort p ps).port p' = if p' = p then ps else s.port p' := by
  cases p <;> cases p' <;> rfl

/-- The queues of port `p'` once a write is admitted. -/
theorem admitted_port (t : Txn) (listed : List Listed) (octets : List Octet) (s : State) (p' : Port) :
    (s.admitted t listed octets).port p' =
      (s.handOver .L .ordinary (forwardedFrame octets (some t.ref))).port p' := by
  unfold State.admitted
  rw [holdSlots_image]
  cases p' <;> rfl

theorem ends_port (t : Txn) (o : TxnOutcome) (s : State) (p' : Port) :
    ((s.removeTxn t.ref).releaseSlots t.ref o t.slots).port p' = s.port p' := by
  rw [releaseSlots_image]
  cases p' <;> rfl

theorem sends_port (p p' : Port) (f : QueuedFrame) (after : PortState) (s : State) :
    ((s.frameSent p f after).selectOn p).port p' =
      if p' = p then after.select (s.settings.port p).share else s.port p' := by
  unfold State.frameSent State.selectOn
  split <;> cases p <;> cases p' <;> rfl

/-- Both ports sound, both link states as the PHYs report, and the four queues empty unless the part runs. -/
structure PortsKept (s : State) : Prop where
  sound : ∀ p : Port, PortSound (s.port p)
  links : s.phase.alive = true → ∀ p : Port, (s.port p).up = (s.port p).phyUp
  empty : s.phase ≠ .running → ∀ p : Port, (s.port p).express = [] ∧ (s.port p).ordinary = []

theorem queuesSound_iff (s : State) : QueuesSound s ↔ PortsKept s := by
  constructor
  · intro h
    exact ⟨fun p => by cases p; exacts [h.plant, h.line],
      fun alive p => by cases p; exacts [(h.links alive).1, (h.links alive).2], h.empty⟩
  · exact fun h => ⟨h.sound .P, h.sound .L, fun alive => ⟨h.links alive .P, h.links alive .L⟩, h.empty⟩

theorem PortsKept.congr {s u : State} (h : PortsKept s) (phase : u.phase = s.phase) (ports : ∀ p, u.port p = s.port p) :
    PortsKept u where
  sound p := by rw [ports]; exact h.sound p
  links alive p := by rw [ports]; exact h.links (by rw [← phase]; exact alive) p
  empty idle p := by rw [ports]; exact h.empty (by rw [← phase]; exact idle) p

/-- While the part runs a port may change alone, if it stays sound and keeps its link and its PHY's report. -/
theorem PortsKept.running {s u : State} (h : PortsKept s) (running : s.phase = .running) (phase : u.phase = s.phase)
    (sound : ∀ p, PortSound (u.port p)) (links : ∀ p, (u.port p).up = (s.port p).up ∧ (u.port p).phyUp = (s.port p).phyUp) :
    PortsKept u where
  sound := sound
  links _ p := by rw [(links p).1, (links p).2]; exact h.links (alive_of_running running) p
  empty idle := absurd (phase.trans running) idle

theorem TableMove.portsKept {c : Instr} {s u : State} (m : TableMove c s u) (h : PortsKept s) : PortsKept u := by
  have phase := m.onlyTables.phase
  cases m with
  | hands p k f running _ waiting =>
    refine h.running running phase (fun p' => ?_) fun p' => ?_ <;> rw [handOver_port] <;> split
    · exact handOver_sound (h.sound p') waiting
    · exact h.sound p'
    · exact handOver_links _ _ _ _ _
    · exact ⟨rfl, rfl⟩
  | admits t listed octets _ adm =>
    refine h.running adm.running phase (fun p' => ?_) fun p' => ?_ <;> rw [admitted_port, handOver_port] <;> split
    · exact handOver_sound (h.sound p') rfl
    · exact h.sound p'
    · exact handOver_links _ _ _ _ _
    · exact ⟨rfl, rfl⟩
  | ends t o => exact h.congr phase (ends_port t o s)
  | sends p f after running sent =>
    obtain ⟨-, up, phyUp, -⟩ := complete_cases sent
    refine h.running running phase (fun p' => ?_) fun p' => ?_ <;> rw [sends_port] <;> split
    · exact select_sound _ (complete_placed sent (h.sound p))
    · exact h.sound p'
    · next same => subst same; exact ⟨(select_links _ _).1.trans up, (select_links _ _).2.trans phyUp⟩
    · exact ⟨rfl, rfl⟩
  | losesLink p =>
    refine ⟨fun p' => ?_, fun alive p' => ?_, fun idle p' => ?_⟩ <;> rw [State.linkLost, setPort_port_cases] <;> split
    · exact flush_sound _ _
    · exact h.sound p'
    · rfl
    · exact h.links (by rw [← phase]; exact alive) p'
    · exact ⟨rfl, rfl⟩
    · exact h.empty (by rw [← phase]; exact idle) p'
  | phy p up same =>
    refine ⟨fun p' => ?_, fun alive p' => ?_, fun idle p' => ?_⟩ <;> rw [State.setPhy, setPort_port_cases] <;> split
    · exact { h.sound p with }
    · exact h.sound p'
    · exact same (by rw [← phase]; exact alive)
    · exact h.links (by rw [← phase]; exact alive) p'
    · exact h.empty (by rw [← phase]; exact idle) p
    · exact h.empty (by rw [← phase]; exact idle) p'
  | linkUp p =>
    refine ⟨fun p' => ?_, fun alive p' => ?_, fun idle p' => ?_⟩ <;> rw [setPort_port_cases] <;> split
    · exact { h.sound p with down := Bool.noConfusion }
    · exact h.sound p'
    · rfl
    · exact h.links (by rw [← phase]; exact alive) p'
    · exact h.empty (by rw [← phase]; exact idle) p
    · exact h.empty (by rw [← phase]; exact idle) p'
  | image => exact h.congr phase fun p => by cases p <;> rfl

theorem Move.portsKept {c : Instr} {s u : State} (m : Move c s u) (window : WindowSound s) (h : PortsKept s) : PortsKept u := by
  cases m
  case quiet q =>
    refine ⟨fun p => ?_, fun alive p => ?_, fun idle p => ?_⟩ <;> rw [q.port p]
    · exact { h.sound p with }
    · exact h.links (by rw [← q.phase]; exact alive) p
    · exact h.empty (by rw [← q.phase]; exact idle) p
  case tables t => exact t.portsKept h
  case raised r may =>
    have running : s.phase = .running := may.resolve_right fun other => other.2 (window.loading other.1)
    refine h.running running (takeRaised_events r s).phase (fun p => ?_) fun p => ?_
    · exact takeRaised_port r (fun _ _ _ _ waiting _ sound => handOver_sound sound waiting) (h.sound p)
    · exact takeRaised_port (Q := fun ps => ps.up = (s.port p).up ∧ ps.phyUp = (s.port p).phyUp) r
        (fun _ _ _ _ _ _ same => ⟨(handOver_links _ _ _ _ _).1.trans same.1, (handOver_links _ _ _ _ _).2.trans same.2⟩) ⟨rfl, rfl⟩
  case warmStarts alive =>
    have port (p : Port) : s.beginWarmStart.port p = (s.port p).emptied := by cases p <;> rfl
    exact ⟨fun p => by rw [port]; exact emptied_sound, fun _ p => by rw [port]; exact h.links alive p,
      fun _ p => by rw [port]; exact ⟨rfl, rfl⟩⟩
  case resets =>
    have port (p : Port) : s.holdReset.port p = (s.port p).emptied := by cases p <;> rfl
    exact ⟨fun p => by rw [port]; exact emptied_sound, Bool.noConfusion, fun _ p => by rw [port]; exact ⟨rfl, rfl⟩⟩
  case coldStarts =>
    have port (p : Port) : s.beginColdStart.port p = freshPort (s.port p).phyUp := by cases p <;> rfl
    exact ⟨fun p => by rw [port]; exact freshPort_sound _, fun _ p => by rw [port]; rfl, fun _ p => by rw [port]; exact ⟨rfl, rfl⟩⟩
  case losesPower =>
    have port (p : Port) : s.losePower.port p = freshPort (s.port p).phyUp := by cases p <;> rfl
    exact ⟨fun p => by rw [port]; exact freshPort_sound _, Bool.noConfusion, fun _ p => by rw [port]; exact ⟨rfl, rfl⟩⟩
  case samples loading _ =>
    have port (p : Port) : s.sampleInputs.port p = { s.port p with up := (s.port p).phyUp, lostAt := none } := by cases p <;> rfl
    have links := h.links (by cases phase : s.phase <;> simp_all [Phase.loading, Phase.alive])
    refine ⟨fun p => ?_, fun _ p => by rw [port], fun idle => absurd rfl idle⟩
    rw [port, ← links p]
    exact { h.sound p with }
  all_goals exact h.congr rfl fun p => by cases p <;> rfl

/-- Settles O56: entries, selections and completions keep a port sound while the part runs, and nothing is handed over while
it does not. -/
theorem queuesKept : Obligations.QueuesKept := by
  unfold Obligations.QueuesKept
  intro s s' taken window queues
  have kept : WindowSound s' ∧ PortsKept s' := step_keeps (P := fun x => WindowSound x ∧ PortsKept x)
    (fun x _ h => ⟨h.1.congr rfl rfl rfl, h.2.congr rfl fun p => by cases p <;> rfl⟩)
    (fun c x y exec_ => (exec_moves exec_).keep (P := fun x => WindowSound x ∧ PortsKept x)
      fun _ _ m h => ⟨m.windowSound h.1, m.portsKept h.1 h.2⟩) taken ⟨window, (queuesSound_iff s).mp queues⟩
  exact (queuesSound_iff s').mpr kept.2

/-! ### The transaction table and the image -/

theorem TableSound.congr {s u : State} (h : TableSound s) (txns : u.txns = s.txns) : TableSound u :=
  ⟨by rw [txns]; exact h.bounded, by rw [txns]; exact h.unique, by rw [txns]; exact h.slots⟩

theorem tableSound_of_empty {s : State} (empty : s.txns = []) : TableSound s :=
  ⟨by simp [empty], by simp [empty], by simp [empty]⟩

theorem ends_txns (t : Txn) (o : TxnOutcome) (s : State) :
    ((s.removeTxn t.ref).releaseSlots t.ref o t.slots).txns = s.txns.filter fun x => decide (x.ref ≠ t.ref) := by
  rw [releaseSlots_image]
  rfl

theorem admitted_txns (t : Txn) (listed : List Listed) (octets : List Octet) (s : State) :
    (s.admitted t listed octets).txns = s.txns ++ [t] := by
  unfold State.admitted
  rw [holdSlots_image]
  rfl

@[simp] theorem complete_ref (r : TxnRef) (d : Nat) (t : Txn) : (t.complete r d).ref = t.ref ∧ (t.complete r d).slots = t.slots := by
  unfold Txn.complete
  split
  · split <;> exact ⟨rfl, rfl⟩
  · exact ⟨rfl, rfl⟩

/-- The table after a completion: as it was, or with the transaction of the mark SENT. -/
theorem sends_txns (p : Port) (f : QueuedFrame) (after : PortState) (s : State) :
    (f.txn = none ∧ ((s.frameSent p f after).selectOn p).txns = s.txns) ∨
      ∃ r d, f.txn = some r ∧ ((s.frameSent p f after).selectOn p).txns = s.txns.map (Txn.complete r d) := by
  cases mark : f.txn with
  | none => exact .inl ⟨rfl, by rw [State.frameSent, mark]; cases p <;> rfl⟩
  | some r =>
    refine .inr ⟨r, (s.setPort p after).replyDeadline r.station, rfl, ?_⟩
    rw [State.frameSent, mark]
    cases p <;> rfl

theorem TableMove.tableSound {c : Instr} {s u : State} (m : TableMove c s u) (h : TableSound s) : TableSound u := by
  cases m with
  | hands p k f => exact h.congr (handOver_txns p k f s)
  | admits t listed octets _ adm =>
    have txns := admitted_txns t listed octets s
    refine ⟨by rw [txns, List.length_append]; exact adm.room, ?_, ?_⟩
    · rw [txns, List.map_append, List.nodup_append]
      refine ⟨h.unique, List.nodup_singleton _, ?_⟩
      intro r member r' member' same
      obtain ⟨x, listed, rfl⟩ := List.mem_map.mp member
      exact adm.fresh x listed (same.trans (List.mem_singleton.mp member'))
    · rw [txns]
      intro x member
      rcases List.mem_append.mp member with old | new
      · exact h.slots x old
      · rw [List.mem_singleton.mp new]
        exact ⟨by rw [adm.slots]; exact mt List.map_eq_nil_iff.mp adm.nonempty, by rw [adm.slots, List.length_map]; exact adm.bounded,
          adm.distinct⟩
  | ends t o =>
    have txns := ends_txns t o s
    refine ⟨by rw [txns]; exact (List.length_filter_le _ _).trans h.bounded, ?_, ?_⟩
    · rw [txns]; exact h.unique.sublist (List.filter_sublist.map _)
    · rw [txns]; exact fun x member => h.slots x (List.mem_filter.mp member).1
  | sends p f after =>
    rcases sends_txns p f after s with ⟨-, txns⟩ | ⟨r, d, -, txns⟩
    · exact h.congr txns
    · refine ⟨by rw [txns, List.length_map]; exact h.bounded, ?_, ?_⟩
      · rw [txns, List.map_map]
        refine (congrArg List.Nodup (List.map_congr_left fun x _ => ?_)).mpr h.unique
        exact (complete_ref r d x).1
      · rw [txns]
        intro x member
        obtain ⟨y, listed, rfl⟩ := List.mem_map.mp member
        rw [(complete_ref r d y).2]
        exact h.slots y listed
  | losesLink p => exact h.congr (setPort_txns p _ s)
  | phy p up => exact h.congr (setPort_txns p _ s)
  | linkUp p => exact h.congr (setPort_txns p _ s)
  | image => exact h.congr rfl

theorem Move.tableSound {c : Instr} {s u : State} (m : Move c s u) (h : TableSound s) : TableSound u := by
  cases m
  case quiet q => exact h.congr q.txns
  case tables t => exact t.tableSound h
  case raised r _ => exact h.congr (takeRaised_events r s).txns
  case warmStarts | resets | coldStarts | losesPower => exact tableSound_of_empty rfl
  all_goals exact h.congr rfl

/-- Two transactions of one reference are one (R94). -/
theorem TableSound.eq_of_ref {s : State} (h : TableSound s) {t x : Txn} (ht : t ∈ s.txns) (hx : x ∈ s.txns) (same : x.ref = t.ref) :
    x = t := List.inj_on_of_nodup_map h.unique hx ht same

theorem ImageSound.congr {s u : State} (h : ImageSound s) (txns : u.txns = s.txns) (image : u.image = s.image) : ImageSound u :=
  ⟨by rw [txns, image]; exact h.held, by rw [txns, image]; exact h.holds⟩

theorem imageSound_of_empty {s : State} (empty : s.txns = []) (unpending : ∀ i : Fin 512, ∀ c v r, s.image[i] ≠ .pending c v r) :
    ImageSound s :=
  ⟨fun i c v r pending => absurd pending (unpending i c v r), by simp [empty]⟩

theorem hold_eq (v : Int) (t : TxnRef) (x : ImageSlot) : ∃ c, x.hold v t = .pending c v t := by
  cases x <;> exact ⟨_, rfl⟩

/-- The image of an admitted write: its slots PENDING for it, the others as they were. -/
theorem admitted_image {s : State} {t : Txn} {listed : List Listed} (adm : Admits s t listed) (octets : List Octet) (i : Fin 512) :
    (i ∈ t.slots → ∃ c v, (s.admitted t listed octets).image[i] = .pending c v t.ref) ∧
      (i ∉ t.slots → (s.admitted t listed octets).image[i] = s.image[i]) := by
  have image : (s.admitted t listed octets).image[i] = (match listed.find? fun l => decide (l.slot = i) with
      | none => s.image[i]
      | some l => s.image[i].hold l.value t.ref) := by
    unfold State.admitted
    rw [handOver_image, holdSlots_eq _ _ _ (by rw [← adm.slots]; exact adm.distinct)]
    simp only [Fin.getElem_fin, getElem_tabulate] <;> rfl
  rw [image, adm.slots]
  constructor
  · intro member
    obtain ⟨l, inList, rfl⟩ := List.mem_map.mp member
    split
    · next missing => exact absurd (List.find?_eq_none.mp missing l inList) (by simp)
    · next x _ =>
      obtain ⟨c, held⟩ := hold_eq x.value t.ref s.image[l.slot]
      exact ⟨c, _, held⟩
  · intro absent
    split
    · rfl
    · next x found =>
      have slot := List.find?_some found
      exact absurd (List.mem_map.mpr ⟨x, List.mem_of_find?_eq_some found, of_decide_eq_true slot⟩) absent

theorem release_pending {x : ImageSlot} {t r : TxnRef} {o : TxnOutcome} {c : Option Int} {v : Int}
    (pending : x.release t o = .pending c v r) : r ≠ t ∧ x = .pending c v r := by
  cases x with
  | unknown => cases pending
  | known y => cases pending
  | pending c' v' r' =>
    by_cases held : r' = t
    · subst held
      cases o with
      | success => rw [ImageSlot.release_success] at pending; cases pending
      | failure => rw [ImageSlot.release_failure] at pending; cases c' <;> cases pending
      | discard => rw [ImageSlot.release_discard] at pending; cases c' <;> cases pending
      | timeout => rw [ImageSlot.release_timeout] at pending; cases pending
    · rw [ImageSlot.release_pending_other held] at pending
      cases pending
      exact ⟨held, rfl⟩

theorem TableMove.imageSound {c : Instr} {s u : State} (m : TableMove c s u) (table : TableSound s) (h : ImageSound s) :
    ImageSound u := by
  cases m with
  | hands p k f => exact h.congr (handOver_txns p k f s) (handOver_image p k f s)
  | admits t listed octets _ adm =>
    have txns := admitted_txns t listed octets s
    have image := admitted_image adm octets
    refine ⟨fun i a b r pending => ?_, fun x member i slot => ?_⟩
    · rw [txns]
      by_cases new : i ∈ t.slots
      · obtain ⟨a', b', held⟩ := (image i).1 new
        rw [held] at pending
        cases pending
        exact ⟨t, by simp, rfl, new⟩
      · rw [(image i).2 new] at pending
        obtain ⟨x, member, ref, slot⟩ := h.held i a b r pending
        exact ⟨x, List.mem_append_left _ member, ref, slot⟩
    · rw [txns] at member
      rcases List.mem_append.mp member with old | new
      · obtain ⟨a, b, pending⟩ := h.holds x old i slot
        rw [(image i).2 fun new => adm.free i new a b x.ref pending]
        exact ⟨a, b, pending⟩
      · rw [List.mem_singleton.mp new] at slot ⊢
        exact (image i).1 slot
  | ends t o listed =>
    have txns := ends_txns t o s
    have image (i : Fin 512) : ((s.removeTxn t.ref).releaseSlots t.ref o t.slots).image[i] =
        if i ∈ t.slots then s.image[i].release t.ref o else s.image[i] := releaseSlots_image_getElem _ _ _ _ _
    refine ⟨fun i a b r pending => ?_, fun x member i slot => ?_⟩
    · rw [image] at pending
      have before : r ≠ t.ref ∧ s.image[i] = .pending a b r := by
        split at pending
        · exact release_pending pending
        · next unlisted =>
          obtain ⟨x, member, ref, slot⟩ := h.held i a b r pending
          refine ⟨fun same => ?_, pending⟩
          rcases listed with here | gone
          · exact unlisted (table.eq_of_ref here member (ref.trans same) ▸ slot)
          · exact gone x member (ref.trans same)
      obtain ⟨x, member, ref, slot⟩ := h.held i a b r before.2
      exact ⟨x, by rw [txns]; exact List.mem_filter.mpr ⟨member, by simpa [ref] using before.1⟩, ref, slot⟩
    · rw [txns, List.mem_filter, decide_eq_true_eq] at member
      obtain ⟨a, b, pending⟩ := h.holds x member.1 i slot
      rw [image, pending, ImageSlot.release_pending_other member.2, ite_self]
      exact ⟨a, b, rfl⟩
  | sends p f after =>
    have image : ((s.frameSent p f after).selectOn p).image = s.image := by
      unfold State.frameSent
      split <;> cases p <;> rfl
    rcases sends_txns p f after s with ⟨-, txns⟩ | ⟨r, d, -, txns⟩
    · exact h.congr txns image
    · refine ⟨fun i a b r' pending => ?_, fun x member i slot => ?_⟩
      · rw [image] at pending
        obtain ⟨x, member, ref, slot⟩ := h.held i a b r' pending
        rw [txns]
        exact ⟨x.complete r d, List.mem_map_of_mem member, (complete_ref r d x).1.trans ref, (complete_ref r d x).2.symm ▸ slot⟩
      · rw [txns] at member
        obtain ⟨y, listed, rfl⟩ := List.mem_map.mp member
        rw [(complete_ref r d y).2] at slot
        rw [image, (complete_ref r d y).1]
        exact h.holds y listed i slot
  | losesLink p => exact h.congr (setPort_txns p _ s) (setPort_image p _ s)
  | phy p up => exact h.congr (setPort_txns p _ s) (setPort_image p _ s)
  | linkUp p => exact h.congr (setPort_txns p _ s) (setPort_image p _ s)
  | image j v same =>
    refine ⟨fun i a b r pending => ?_, fun x member i slot => ?_⟩
    · rw [setImage_image_getElem] at pending
      split at pending
      · next equal =>
        subst equal
        obtain ⟨a', b', old⟩ := (same r).mp ⟨a, b, pending⟩
        exact h.held _ a' b' r old
      · exact h.held i a b r pending
    · obtain ⟨a, b, old⟩ := h.holds x member i slot
      rw [setImage_image_getElem]
      split
      · next equal => subst equal; exact (same x.ref).mpr ⟨a, b, old⟩
      · exact ⟨a, b, old⟩

theorem emptyImage_getElem (i : Fin 512) (c : Option Int) (v : Int) (r : TxnRef) : emptyImage[i] ≠ .pending c v r := by
  simp [emptyImage]

theorem carrySlot_cases (old new : Option ParamRecord) (v : ImageSlot) : carrySlot old new v = v ∨ carrySlot old new v = .unknown := by
  unfold carrySlot
  split
  · split
    · exact .inl rfl
    · exact .inr rfl
  all_goals exact .inr rfl

theorem Move.imageSound {c : Instr} {s u : State} (m : Move c s u) (table : TableSound s) (h : ImageSound s) : ImageSound u := by
  cases m
  case quiet q => exact h.congr q.txns q.image
  case tables t => exact t.imageSound table h
  case raised r _ => exact h.congr (takeRaised_events r s).txns (takeRaised_events r s).image
  case warmStarts | resets | coldStarts | losesPower => exact imageSound_of_empty rfl emptyImage_getElem
  case swaps idle _ =>
    refine imageSound_of_empty idle fun i a b r pending => ?_
    rw [swap_image_getElem] at pending
    rcases carrySlot_cases s.settings.activeBank[i] s.settings.stagedBank[i] s.image[i] with kept | dropped
    · rw [kept] at pending
      obtain ⟨x, member, -⟩ := h.held i a b r pending
      rw [idle] at member
      cases member
    · rw [dropped] at pending; cases pending
  all_goals exact h.congr rfl rfl

/-- Settles O54: a slot is held where its transaction is created, and released where the transaction leaves the table. -/
theorem transactionsAndImageKept : Obligations.TransactionsAndImageKept := by
  unfold Obligations.TransactionsAndImageKept
  intro s s' taken table image
  have kept : TableSound s' ∧ ImageSound s' := step_keeps (P := fun x => TableSound x ∧ ImageSound x)
    (fun x _ h => ⟨h.1.congr rfl, h.2.congr rfl rfl⟩)
    (fun c x y exec_ => (exec_moves exec_).keep (P := fun x => TableSound x ∧ ImageSound x)
      fun _ _ m h => ⟨m.tableSound h.1, m.imageSound h.1 h.2⟩) taken ⟨table, image⟩
  exact kept

end Sys2Proof.Machine

/-! PROOFS. The order of the table and the marks in the ordinary queue of L (R96, R98), and the discards of a loss of link
(R104). -/

namespace Sys2Proof.Machine

/-! ### The discards of a loss of link -/

/-- An ended transaction leaves the table and releases its slots. -/
theorem ends_eq (t : Txn) (o : TxnOutcome) (s : State) :
    (s.removeTxn t.ref).releaseSlots t.ref o t.slots =
      { s with txns := s.txns.filter fun x => decide (x.ref ≠ t.ref), image := releasedImage s.image t o } := by
  rw [releaseSlots_image]
  have image : ((s.removeTxn t.ref).releaseSlots t.ref o t.slots).image = releasedImage s.image t o := by
    refine Vector.ext fun i bound => ?_
    have slot := releaseSlots_image_getElem t.ref o t.slots (s.removeTxn t.ref) ⟨i, bound⟩
    rw [Fin.getElem_fin] at slot
    rw [slot]
    unfold releasedImage
    rw [getElem_tabulate]
    rfl
  rw [image]
  rfl

theorem endQuietly_discard_eq (t : Txn) (s : State) :
    s.endQuietly t .discard 0 =
      { s with txns := s.txns.filter fun x => decide (x.ref ≠ t.ref), image := releasedImage s.image t .discard } :=
  (endQuietly_discard t 0 s).trans (ends_eq t .discard s)

theorem discards_eq (gone : List Txn) (s : State) :
    gone.foldl (fun s t => s.endQuietly t .discard 0) s =
      { s with
        txns := s.txns.filter fun x => decide (∀ t ∈ gone, x.ref ≠ t.ref)
        image := gone.foldl (fun image t => releasedImage image t .discard) s.image } := by
  induction gone generalizing s with
  | nil => simp
  | cons t rest ih =>
    rw [List.foldl_cons, ih, endQuietly_discard_eq]
    simp only [List.filter_filter, List.forall_mem_cons, Bool.decide_and, List.foldl_cons]
    congr 1
    exact List.filter_congr fun x _ => Bool.and_comm _ _

theorem isQueued_iff (t : Txn) : t.isQueued = true ↔ t.state = .queued := by
  cases state : t.state <;> simp [Txn.isQueued, state]

theorem queuedTxns_eq (s : State) : queuedTxns s = s.txns.filter fun x => x.isQueued := by
  refine List.filter_congr fun x _ => Bool.eq_iff_iff.mpr ?_
  rw [decide_eq_true_iff, isQueued_iff]

/-- A loss of link leaves no QUEUED transaction in the table. -/
theorem discardQueued_unqueued (s : State) : ∀ t ∈ s.discardQueued.txns, t.isQueued = false := by
  have left : ∀ t ∈ ((queuedTxns s).foldl (fun s t => s.endQuietly t .discard 0) s).txns, t.isQueued = false := by
    intro t member
    rw [discards_eq] at member
    obtain ⟨listed, kept⟩ := List.mem_filter.mp member
    by_contra queued
    rw [Bool.not_eq_false] at queued
    refine of_decide_eq_true kept t ?_ rfl
    rw [queuedTxns_eq]
    exact List.mem_filter.mpr ⟨listed, queued⟩
  unfold State.discardQueued
  dsimp only
  split
  · rw [(examineDraining_onlyEvents _).txns]; exact left
  · exact left

/-! ### The marks -/

/-- The marks of a port's two queues are the same. -/
def SameMarks (a b : PortState) : Prop :=
  a.express.filterMap (·.txn) = b.express.filterMap (·.txn) ∧ a.ordinary.filterMap (·.txn) = b.ordinary.filterMap (·.txn)

theorem MarksSound.congr {s u : State} (h : MarksSound s) (txns : u.txns = s.txns)
    (marks : ∀ p : Port, SameMarks (u.port p) (s.port p)) : MarksSound u := by
  obtain ⟨sent, queued, table, areSent, areQueued, line⟩ := h.sentFirst
  obtain ⟨expressL, expressP, ordinaryP⟩ := h.unmarked
  have plant := marks .P
  have cable := marks .L
  simp only [← marks_eq_nil_iff] at expressL expressP ordinaryP
  refine ⟨⟨sent, queued, txns.trans table, areSent, areQueued, cable.2.trans line⟩, ?_⟩
  simp only [← marks_eq_nil_iff]
  exact ⟨cable.1.trans expressL, plant.1.trans expressP, plant.2.trans ordinaryP⟩

/-- A table with no QUEUED transaction, over queues without marks. -/
theorem marksSound_of_unmarked {s : State} (sent : ∀ t ∈ s.txns, t.isQueued = false) (unmarked : ∀ p, (s.port p).Unmarked) :
    MarksSound s := by
  refine ⟨⟨s.txns, [], (List.append_nil _).symm, sent, by simp, (unmarked .L).2⟩, ?_⟩
  simp only [← marks_eq_nil_iff]
  exact ⟨(unmarked .L).1, (unmarked .P).1, (unmarked .P).2⟩

theorem sameMarks_keeps (b : PortState) : PartFramesKeep fun a => SameMarks a b := by
  intro now share f ps unmarked _ _ h
  obtain ⟨express, ordinary⟩ := handOver_marks_unmarked (now := now) (share := share) (k := .ordinary) unmarked ps
  exact ⟨express.trans h.1, ordinary.trans h.2⟩

/-- A transaction that does not carry the sent mark, or is SENT already, is left as it is. -/
theorem complete_other {r : TxnRef} {d : Nat} {t : Txn} (h : t.isQueued = false ∨ t.ref ≠ r) : t.complete r d = t := by
  unfold Txn.complete
  split
  · next state =>
    rcases h with sent | other
    · exact absurd ((isQueued_iff t).mpr state) (by simp [sent])
    · rw [if_neg other]
  · rfl

theorem complete_isQueued {r : TxnRef} {d : Nat} {t : Txn} (same : t.ref = r) : (t.complete r d).isQueued = false := by
  cases state : t.state <;> simp [Txn.complete, Txn.isQueued, state, same]

/-- The completion of an unmarked frame leaves table and marks. -/
theorem sends_unmarked {s : State} {p : Port} {f : QueuedFrame} {after : PortState}
    (sent : (s.port p).complete = some (f, after)) (unmarked : f.txn = none) (h : MarksSound s) :
    MarksSound ((s.frameSent p f after).selectOn p) := by
  obtain ⟨-, -, -, -, queues⟩ := complete_cases sent
  have left : SameMarks after (s.port p) := by
    rcases queues with ⟨express, ordinary⟩ | ⟨ordinary, express⟩
    · exact ⟨by simp [express, unmarked], by rw [ordinary]⟩
    · exact ⟨by rw [express], by simp [ordinary, unmarked]⟩
  have txns : ((s.frameSent p f after).selectOn p).txns = s.txns := by
    rw [State.frameSent, unmarked]; cases p <;> rfl
  refine h.congr txns fun p' => ?_
  rw [sends_port]
  split
  · next same =>
    subst same
    have marks := select_marks (s.settings.port p').share after
    exact ⟨marks.1.trans left.1, marks.2.trans left.2⟩
  · exact ⟨rfl, rfl⟩

/-- The completion of a marked frame: its transaction is the oldest QUEUED one, and joins the SENT ones. -/
theorem sends_marked {s : State} {p : Port} {f : QueuedFrame} {after : PortState} {r : TxnRef}
    (sent : (s.port p).complete = some (f, after)) (mark : f.txn = some r) (table : TableSound s) (h : MarksSound s) :
    MarksSound ((s.frameSent p f after).selectOn p) := by
  obtain ⟨-, -, -, -, queues⟩ := complete_cases sent
  obtain ⟨expressL, expressP, ordinaryP⟩ := h.unmarked
  have marked (q : List QueuedFrame) (rest : List QueuedFrame) (head : q = f :: rest) (unmarked : ∀ x ∈ q, x.txn = none) : False := by
    have none_ := unmarked f (by rw [head]; exact List.mem_cons_self)
    rw [mark] at none_
    cases none_
  obtain ⟨rfl, ordinary, express⟩ : p = .L ∧ (s.port p).ordinary = f :: after.ordinary ∧ after.express = (s.port p).express := by
    rcases queues with ⟨express, -⟩ | ⟨ordinary, express⟩ <;> cases p
    · exact (marked _ _ express expressP).elim
    · exact (marked _ _ express expressL).elim
    · exact (marked _ _ ordinary ordinaryP).elim
    · exact ⟨rfl, ordinary, express⟩
  obtain ⟨old, queued, txns, areSent, areQueued, line⟩ := h.sentFirst
  rw [show s.portL.ordinary = f :: after.ordinary from ordinary, List.filterMap_cons, mark] at line
  obtain ⟨t, rest, rfl, ref, marks⟩ := List.map_eq_cons_iff.mp line.symm
  have restOther : ∀ x ∈ rest, x.ref ≠ r := by
    have unique := table.unique
    rw [txns, List.map_append, List.map_cons, List.nodup_append] at unique
    intro x member same
    exact (List.nodup_cons.mp unique.2.1).1 (by rw [ref, ← same]; exact List.mem_map_of_mem member)
  obtain ⟨d, now⟩ : ∃ d, ((s.frameSent .L f after).selectOn .L).txns = s.txns.map (Txn.complete r d) :=
    ⟨(s.setPort .L after).replyDeadline r.station, by rw [State.frameSent, mark]; rfl⟩
  have selected := select_marks (s.settings.port .L).share after
  have portL : ((s.frameSent .L f after).selectOn .L).portL = after.select (s.settings.port .L).share := sends_port .L .L f after s
  have portP : ((s.frameSent .L f after).selectOn .L).portP = s.portP := sends_port .L .P f after s
  refine ⟨⟨old ++ [t.complete r d], rest, ?_, ?_, fun x member => areQueued x (List.mem_cons_of_mem _ member), ?_⟩, ?_⟩
  · have first : old.map (Txn.complete r d) = old :=
      List.map_congr_left (fun x member => complete_other (.inl (areSent x member))) |>.trans (List.map_id' _)
    have last : rest.map (Txn.complete r d) = rest :=
      List.map_congr_left (fun x member => complete_other (.inr (restOther x member))) |>.trans (List.map_id' _)
    rw [now, txns, List.map_append, List.map_cons, first, last, List.append_assoc, List.singleton_append]
  · intro x member
    rcases List.mem_append.mp member with earlier | new
    · exact areSent x earlier
    · rw [List.mem_singleton.mp new]; exact complete_isQueued ref
  · rw [portL, selected.2, marks]
  · rw [portL, portP]
    refine ⟨?_, expressP, ordinaryP⟩
    rw [← marks_eq_nil_iff, selected.1, show after.express = s.portL.express from express, marks_eq_nil_iff]
    exact expressL

/-- An admitted write is the newest transaction, and its mark the last in the queue. -/
theorem admits_marksSound {s : State} {t : Txn} {listed : List Listed} (adm : Admits s t listed) (octets : List Octet)
    (h : MarksSound s) : MarksSound (s.admitted t listed octets) := by
  obtain ⟨sent, queued, table, areSent, areQueued, line⟩ := h.sentFirst
  obtain ⟨expressL, expressP, ordinaryP⟩ := h.unmarked
  have txns := admitted_txns t listed octets s
  have entered : s.portL.handOver s.now (s.settings.port .L).share .ordinary (forwardedFrame octets (some t.ref)) =
      s.portL.enter s.now (s.settings.port .L).share .ordinary (forwardedFrame octets (some t.ref)) := by
    rw [PortState.handOver, if_pos adm.accepted]
  have portL : (s.admitted t listed octets).portL = _ := (admitted_port t listed octets s .L).trans
    ((handOver_port .L .L .ordinary (forwardedFrame octets (some t.ref)) s).trans entered)
  have portP : (s.admitted t listed octets).portP = s.portP := admitted_port t listed octets s .P
  have marks := enter_marks s.now (s.settings.port .L).share .ordinary (forwardedFrame octets (some t.ref)) s.portL
  refine ⟨⟨sent, queued ++ [t], by rw [txns, table, List.append_assoc], areSent, ?_, ?_⟩, ?_⟩
  · intro x member
    rcases List.mem_append.mp member with earlier | new
    · exact areQueued x earlier
    · rw [List.mem_singleton.mp new]; exact (isQueued_iff t).mpr adm.queued
  · rw [portL, marks.2, line, List.map_append]
    rfl
  · rw [portL, portP]
    refine ⟨?_, expressP, ordinaryP⟩
    rw [← marks_eq_nil_iff, marks.1, (marks_eq_nil_iff _).mpr expressL]
    rfl

/-- An ending takes no QUEUED transaction whose mark still stands in the queue. -/
theorem ends_marksSound {s : State} (t : Txn) (o : TxnOutcome) (listed : t ∈ s.txns ∨ ∀ u ∈ s.txns, u.ref ≠ t.ref)
    (unmarked : t.isQueued = false ∨ LineUnmarked s) (table : TableSound s) (h : MarksSound s) :
    MarksSound ((s.removeTxn t.ref).releaseSlots t.ref o t.slots) := by
  obtain ⟨sent, queued, txns, areSent, areQueued, line⟩ := h.sentFirst
  have port := ends_port t o s
  have others : ∀ x ∈ queued, x.ref ≠ t.ref := by
    intro x member same
    have inTable : x ∈ s.txns := by rw [txns]; exact List.mem_append_right _ member
    rcases unmarked with isSent | unmarked
    · rcases listed with here | gone
      · rw [table.eq_of_ref here inTable same] at member
        rw [areQueued t member] at isSent
        cases isSent
      · exact gone x inTable same
    · rw [(marks_eq_nil_iff _).mpr unmarked] at line
      rw [List.map_eq_nil_iff.mp line.symm] at member
      cases member
  refine ⟨⟨sent.filter fun x => decide (x.ref ≠ t.ref), queued, ?_, fun x member => areSent x (List.mem_filter.mp member).1,
    areQueued, ?_⟩, ?_⟩
  · rw [ends_txns, txns, List.filter_append]
    congr 1
    exact List.filter_eq_self.mpr fun x member => decide_eq_true (others x member)
  · exact (congrArg (fun ps => ps.ordinary.filterMap (·.txn)) (port .L)).trans line
  · rw [show ((s.removeTxn t.ref).releaseSlots t.ref o t.slots).portL = s.portL from port .L,
      show ((s.removeTxn t.ref).releaseSlots t.ref o t.slots).portP = s.portP from port .P]
    exact h.unmarked

theorem TableMove.marksSound {c : Instr} {s u : State} (m : TableMove c s u) (line : ∀ t o, c ≠ .linkDown t .L o)
    (table : TableSound s) (h : MarksSound s) : MarksSound u := by
  cases m with
  | hands p k f _ unmarked =>
    refine h.congr (handOver_txns p k f s) fun p' => ?_
    rw [handOver_port]
    split
    · exact handOver_marks_unmarked unmarked _
    · exact ⟨rfl, rfl⟩
  | admits t listed octets _ adm => exact admits_marksSound adm octets h
  | ends t o listed unmarked => exact ends_marksSound t o listed unmarked table h
  | sends p f after _ sent =>
    cases mark : f.txn with
    | none => exact sends_unmarked sent mark h
    | some r => exact sends_marked sent mark table h
  | losesLink p t o down =>
    cases p with
    | L => exact absurd down (line t o)
    | P => exact ⟨h.sentFirst, h.unmarked.1, by simp [State.linkLost, PortState.flush], by simp [State.linkLost, PortState.flush]⟩
  | phy p up => exact h.congr (setPort_txns p _ s) fun p' => by cases p <;> cases p' <;> exact ⟨rfl, rfl⟩
  | linkUp p => exact h.congr (setPort_txns p _ s) fun p' => by cases p <;> cases p' <;> exact ⟨rfl, rfl⟩
  | image => exact h.congr rfl fun p' => by cases p' <;> exact ⟨rfl, rfl⟩

theorem Move.marksSound {c : Instr} {s u : State} (m : Move c s u) (line : ∀ t o, c ≠ .linkDown t .L o)
    (table : TableSound s) (h : MarksSound s) : MarksSound u := by
  have emptied (u : State) (txns : u.txns = []) (marks : ∀ p, (u.port p).Unmarked) : MarksSound u :=
    marksSound_of_unmarked (by simp [txns]) marks
  cases m
  case quiet q => exact h.congr q.txns fun p => by rw [q.port p]; exact ⟨rfl, rfl⟩
  case tables t => exact t.marksSound line table h
  case raised r _ =>
    exact h.congr (takeRaised_events r s).txns fun p =>
      takeRaised_port (Q := fun ps => SameMarks ps (s.port p)) r (fun now => sameMarks_keeps _ now _) ⟨rfl, rfl⟩
  case warmStarts | resets | coldStarts | losesPower => exact emptied _ rfl fun p => by cases p <;> exact ⟨rfl, rfl⟩
  all_goals exact h.congr rfl fun p => by cases p <;> exact ⟨rfl, rfl⟩

/-! ### A loss of link on port L -/

/-- No port holds a mark. -/
def NoMarks (s : State) : Prop := ∀ p, (s.port p).Unmarked

theorem report_noMarks (t : Trigger) (n : Option (Fin 32)) {s : State} (h : NoMarks s) : NoMarks (s.report t n) :=
  fun p => report_port unmarked_keeps t n (h p)

theorem discardQueued_noMarks {s : State} (h : NoMarks s) : NoMarks s.discardQueued := by
  have left : NoMarks ((queuedTxns s).foldl (fun s t => s.endQuietly t .discard 0) s) := by
    rw [discards_eq]
    exact fun p => by cases p; exacts [h .P, h .L]
  unfold State.discardQueued
  dsimp only
  split
  · exact fun p => examineDraining_port unmarked_keeps (left p)
  · exact left

/-- Once port L is DOWN no mark and no QUEUED transaction is left, whatever the order of the reports. -/
theorem portDown_marksSound (order : LinkOrder) {s : State} (h : MarksSound s) : MarksSound (s.portDown .L order) := by
  have report (s : State) (noMarks : NoMarks s) (sent : ∀ t ∈ s.txns, t.isQueued = false) :
      NoMarks (s.report .link none) ∧ ∀ t ∈ (s.report .link none).txns, t.isQueued = false :=
    ⟨report_noMarks _ _ noMarks, by rw [(report_onlyEvents _ _ s).txns]; exact sent⟩
  have flushed : NoMarks (s.setPort .L ((s.port .L).flush s.now)) := by
    intro p
    cases p
    · exact ⟨(marks_eq_nil_iff _).mpr h.unmarked.2.1, (marks_eq_nil_iff _).mpr h.unmarked.2.2⟩
    · exact ⟨rfl, rfl⟩
  unfold State.portDown
  dsimp only [State.linkReport, State.linkDiscards]
  generalize s.setPort .L ((s.port .L).flush s.now) = s1 at flushed ⊢
  generalize (s.port .L).allFrames.any (·.restart) = restarting
  have first : NoMarks (if order = .reportFirst then s1.report .link none else s1) := by
    split
    · exact report_noMarks _ _ flushed
    · exact flushed
  generalize (if order = .reportFirst then s1.report .link none else s1) = s2 at first ⊢
  have discarded : NoMarks s2.discardQueued ∧ ∀ t ∈ s2.discardQueued.txns, t.isQueued = false :=
    ⟨discardQueued_noMarks first, discardQueued_unqueued s2⟩
  generalize s2.discardQueued = s3 at discarded ⊢
  have second : NoMarks (if order = .discardsFirst then s3.report .link none else s3) ∧
      ∀ t ∈ (if order = .discardsFirst then s3.report .link none else s3).txns, t.isQueued = false := by
    split
    · exact report s3 discarded.1 discarded.2
    · exact discarded
  generalize (if order = .discardsFirst then s3.report .link none else s3) = s4 at second ⊢
  have started : NoMarks (if restarting = true then s4.beginWarmStart else s4) ∧
      ∀ t ∈ (if restarting = true then s4.beginWarmStart else s4).txns, t.isQueued = false := by
    split
    · exact ⟨fun p => by cases p <;> exact ⟨rfl, rfl⟩, by simp [State.beginWarmStart]⟩
    · exact second
  generalize (if restarting = true then s4.beginWarmStart else s4) = s5 at started ⊢
  split
  · exact marksSound_of_unmarked (report s5 started.1 started.2).2 (report s5 started.1 started.2).1
  · exact marksSound_of_unmarked started.2 started.1

theorem linkDownL_marksSound (t : Nat) (order : LinkOrder) {s s' : State} (taken : exec (.linkDown t .L order) s = .next s')
    (h : MarksSound s) : MarksSound s' := by
  have clocked : MarksSound (s.clock t) := h.congr (clock_txns t s) fun p => by
    cases p
    · rw [show (s.clock t).port .P = s.port .P from clock_portP t s]; exact ⟨rfl, rfl⟩
    · rw [show (s.clock t).port .L = s.port .L from clock_portL t s]; exact ⟨rfl, rfl⟩
  have reported : MarksSound ((s.clock t).setPhy .L false) := clocked.congr rfl fun p => by cases p <;> exact ⟨rfl, rfl⟩
  change execLinkDown t .L order s = .next s' at taken
  unfold execLinkDown at taken
  dsimp only at taken
  generalize (s.clock t).setPhy .L false = s1 at reported taken
  have living (taken : (if (s1.port .L).up = true then .next (s1.portDown .L order) else .next s1 : Result) = .next s') :
      MarksSound s' := by
    split at taken <;> cases taken
    · exact portDown_marksSound order reported
    · exact reported
  split at taken
  case h_1 | h_2 => cases taken; exact reported
  all_goals exact living taken

/-- Settles O55: a mark enters the queue with its transaction, and leaves it when the transaction is SENT or, with the link,
discarded. -/
theorem marksFollowTheTable : Obligations.MarksFollowTheTable := by
  unfold Obligations.MarksFollowTheTable
  intro s s' taken table marks
  have kept : TableSound s' ∧ MarksSound s' := by
    refine step_keeps (P := fun x => TableSound x ∧ MarksSound x)
      (fun x _ h => ⟨h.1.congr rfl, h.2.congr rfl fun p => by cases p <;> exact ⟨rfl, rfl⟩⟩) ?_ taken ⟨table, marks⟩
    intro c x y exec_ h
    have moves := exec_moves exec_
    by_cases line : ∀ t o, c ≠ .linkDown t .L o
    · exact moves.keep (P := fun x => TableSound x ∧ MarksSound x)
        (fun _ _ m h => ⟨m.tableSound h.1, m.marksSound line h.1 h.2⟩) h
    · simp only [ne_eq, not_forall, not_not] at line
      obtain ⟨t, order, rfl⟩ := line
      exact ⟨moves.keep (fun _ _ m => m.tableSound) h.1, linkDownL_marksSound t order exec_ h.2⟩
  exact kept.2

end Sys2Proof.Machine

/-! PROOFS. The event unit: the record and its levels (R144, R146), the priorities (R145, R147, R152), the taking of a raised
event (R148 to R151). -/

namespace Sys2Proof.Machine

/-! ### The record of an event -/

theorem levels_seven (st : Settings) (kind : EventKind) : levels st kind 7 = (7, 0) := rfl

theorem levels_promotedA {st : Settings} {kind : EventKind} {natural : Nat} (below : natural ≠ 7)
    (promoted : st.promotionA = some kind) : levels st kind natural = (6, 2) := by
  rw [levels, if_neg below, if_pos promoted]

theorem levels_promotedB {st : Settings} {kind : EventKind} {natural : Nat} (below : natural ≠ 7)
    (other : st.promotionA ≠ some kind) (promoted : st.promotionB = some kind) : levels st kind natural = (6, 1) := by
  rw [levels, if_neg below, if_neg other, if_pos promoted]

theorem levels_unpromoted {st : Settings} {kind : EventKind} {natural : Nat} (below : natural ≠ 7)
    (otherA : st.promotionA ≠ some kind) (otherB : st.promotionB ≠ some kind) : levels st kind natural = (natural, 0) := by
  rw [levels, if_neg below, if_neg otherA, if_neg otherB]

/-- No promotion reaches level 7. -/
theorem effective_eq_seven_iff (st : Settings) (now : Nat) (r : Raised) :
    (makeRecord st now r).effective = 7 ↔ r.natural = 7 := by
  simp only [makeRecord, levels]
  split_ifs with seven <;> simp_all

theorem mayEnter_iff (st : Settings) (e : EventRecord) : mayEnter st e = true ↔ e.effective = 7 ∨ e.station = none ∨
    ∃ (n : Fin 32) (g : Fin 4), e.station = some n ∧ g.val = n.val / 8 ∧ st.stations[n].config.enters = true ∧
      st.groupEnables[g] = true := by
  unfold mayEnter
  split
  · next seven => simp [seven]
  · next below =>
    split
    · next n named =>
      rw [Bool.and_eq_true]
      constructor
      · rintro ⟨enters, enabled⟩
        exact .inr (.inr ⟨n, stationGroup n, named, rfl, enters, enabled⟩)
      · rintro (seven | absent | ⟨m, g, same, group, enters, enabled⟩)
        · exact absurd seven below
        · rw [absent] at named; cases named
        · obtain rfl : n = m := Option.some.inj (named.symm.trans same)
          obtain rfl : g = stationGroup n := Fin.ext group
          exact ⟨enters, enabled⟩
    · next absent => simp [absent]

/-- Settles O43: the levels' four rows, the copied fields, and the masks. -/
theorem eventLevelsAndMasks : Obligations.EventLevelsAndMasks := by
  unfold Obligations.EventLevelsAndMasks
  intro st now r
  refine ⟨fun seven => ?_, fun below promoted => ?_, fun below other promoted => ?_, fun below otherA otherB => ?_,
    ⟨rfl, rfl, rfl, rfl, rfl, rfl, rfl, rfl, rfl, rfl, rfl⟩, mayEnter_iff st _⟩ <;> simp only [makeRecord]
  · rw [seven, levels_seven]; exact ⟨rfl, rfl⟩
  · rw [levels_promotedA below promoted]; exact ⟨rfl, rfl⟩
  · rw [levels_promotedB below other promoted]; exact ⟨rfl, rfl⟩
  · rw [levels_unpromoted below otherA otherB]; exact ⟨rfl, rfl⟩

/-! ### Priority -/

/-- What the first three comparisons of R145 order events by. -/
def EventRecord.precedence (e : EventRecord) : ℕ ×ₗ ℕ ×ₗ Bool := toLex (e.effective, toLex (e.rank, !e.forced))

theorem precedence_lt_iff (x y : EventRecord) : y.precedence < x.precedence ↔ y.effective < x.effective ∨
    (x.effective = y.effective ∧ (y.rank < x.rank ∨ (x.rank = y.rank ∧ x.forced = false ∧ y.forced = true))) := by
  simp only [EventRecord.precedence, Prod.Lex.toLex_lt_toLex, Bool.lt_iff, Bool.not_eq_false', Bool.not_eq_true',
    eq_comm (a := y.effective), eq_comm (a := y.rank), and_comm (a := y.forced = true)]

theorem precedence_eq_iff (x y : EventRecord) :
    x.precedence = y.precedence ↔ x.effective = y.effective ∧ x.rank = y.rank ∧ x.forced = y.forced := by
  simp [EventRecord.precedence]

theorem beats_iff (x y : EventRecord) : beats x y = true ↔ y.precedence < x.precedence := by
  rw [precedence_lt_iff]
  unfold beats
  split_ifs with level rank <;> simp_all

theorem higherPriority_iff {events : List EventRecord} {i j : Nat} {x y : EventRecord} (hi : events[i]? = some x)
    (hj : events[j]? = some y) :
    higherPriority events i j ↔ y.precedence < x.precedence ∨ (x.precedence = y.precedence ∧ i < j) := by
  simp only [higherPriority, hi, hj, precedence_lt_iff, precedence_eq_iff]
  tauto

/-- The lowest event of a queue stands below each other one, and is taken out of its place. -/
theorem takeLowest_index {es : List EventRecord} (nonempty : es ≠ []) :
    ∃ (i : Nat) (x : EventRecord), es[i]? = some x ∧ takeLowest es = some (x, es.eraseIdx i) ∧
      ∀ (j : Nat) (y : EventRecord), es[j]? = some y → j ≠ i →
        x.precedence < y.precedence ∨ (y.precedence = x.precedence ∧ j < i) := by
  induction es with
  | nil => exact absurd rfl nonempty
  | cons e rest ih =>
    by_cases last : rest = []
    · subst last
      refine ⟨0, e, rfl, rfl, fun j y at_ other => ?_⟩
      obtain ⟨j, rfl⟩ := Nat.exists_eq_succ_of_ne_zero other
      simp at at_
    · obtain ⟨i, l, here, taken, below⟩ := ih last
      by_cases lower : beats l e = true
      · refine ⟨0, e, rfl, by rw [takeLowest, taken]; exact if_pos lower, fun j y at_ other => .inl ?_⟩
        obtain ⟨j, rfl⟩ := Nat.exists_eq_succ_of_ne_zero other
        rw [List.getElem?_cons_succ] at at_
        have above : l.precedence ≤ y.precedence := by
          by_cases same : j = i
          · subst same
            rw [Option.some.inj (here.symm.trans at_)]
          · rcases below j y at_ same with higher | ⟨equal, -⟩
            · exact higher.le
            · exact equal.ge
        exact ((beats_iff l e).mp lower).trans_le above
      · refine ⟨i + 1, l, by rw [List.getElem?_cons_succ]; exact here, by rw [takeLowest, taken]; exact if_neg lower,
          fun j y at_ other => ?_⟩
        cases j with
        | zero =>
          obtain rfl : e = y := Option.some.inj at_
          rw [beats_iff, not_lt] at lower
          exact lower.lt_or_eq.imp id fun equal => ⟨equal.symm, Nat.succ_pos i⟩
        | succ j =>
          rw [List.getElem?_cons_succ] at at_
          exact (below j y at_ (fun same => other (congrArg _ same))).imp id fun h => ⟨h.1, Nat.succ_lt_succ h.2⟩

/-- The highest event of a queue stands above each other one, and is taken out of its place. -/
theorem takeHighest_index {es : List EventRecord} (nonempty : es ≠ []) :
    ∃ (i : Nat) (x : EventRecord), es[i]? = some x ∧ takeHighest es = some (x, es.eraseIdx i) ∧
      ∀ (j : Nat) (y : EventRecord), es[j]? = some y → j ≠ i →
        y.precedence < x.precedence ∨ (x.precedence = y.precedence ∧ i < j) := by
  induction es with
  | nil => exact absurd rfl nonempty
  | cons e rest ih =>
    by_cases last : rest = []
    · subst last
      refine ⟨0, e, rfl, rfl, fun j y at_ other => ?_⟩
      obtain ⟨j, rfl⟩ := Nat.exists_eq_succ_of_ne_zero other
      simp at at_
    · obtain ⟨i, h, here, taken, above⟩ := ih last
      by_cases higher : beats h e = true
      · refine ⟨i + 1, h, by rw [List.getElem?_cons_succ]; exact here, by rw [takeHighest, taken]; exact if_pos higher,
          fun j y at_ other => ?_⟩
        cases j with
        | zero =>
          obtain rfl : e = y := Option.some.inj at_
          exact .inl ((beats_iff h e).mp higher)
        | succ j =>
          rw [List.getElem?_cons_succ] at at_
          exact (above j y at_ (fun same => other (congrArg _ same))).imp id fun h => ⟨h.1, Nat.succ_lt_succ h.2⟩
      · refine ⟨0, e, rfl, by rw [takeHighest, taken]; exact if_neg higher, fun j y at_ other => ?_⟩
        obtain ⟨j, rfl⟩ := Nat.exists_eq_succ_of_ne_zero other
        rw [List.getElem?_cons_succ] at at_
        rw [beats_iff, not_lt] at higher
        have under : y.precedence ≤ h.precedence := by
          by_cases same : j = i
          · subst same
            rw [Option.some.inj (here.symm.trans at_)]
          · rcases above j y at_ same with lower | ⟨equal, -⟩
            · exact lower.le
            · exact equal.ge
        exact (under.trans higher).lt_or_eq.imp id fun equal => ⟨equal.symm, Nat.succ_pos j⟩

/-- Settles O44: the lowest event of the full queue is the one `takeLowest` finds. -/
theorem eventJoinsDisplacesOrIsLost : Obligations.EventJoinsDisplacesOrIsLost := by
  unfold Obligations.EventJoinsDisplacesOrIsLost
  intro events lost e
  refine ⟨fun room => ?_, fun full => ?_⟩
  · rw [enterQueue, if_pos (show events.length < Config.maxEvents from room)]
  · obtain ⟨i, x, here, taken, below⟩ := takeLowest_index (es := events) (by rintro rfl; cases full)
    have within : i < 32 := full ▸ (List.getElem?_eq_some_iff.mp here).1
    have entered : enterQueue events lost e =
        if x.effective < 7 ∧ beats e x = true then ⟨events.eraseIdx i ++ [e], satInc lost, true⟩ else ⟨events, satInc lost, false⟩ := by
      have noRoom : ¬ events.length < Config.maxEvents := by rw [full]; exact Nat.lt_irrefl 32
      rw [enterQueue, if_neg noRoom, taken]
    have outranks : higherPriority (events ++ [e]) 32 i ↔ beats e x = true := by
      have newest : (events ++ [e])[32]? = some e := by rw [← full]; simp
      have old : (events ++ [e])[i]? = some x := by rw [List.getElem?_append_left (full.symm ▸ within)]; exact here
      rw [higherPriority_iff newest old, beats_iff]
      exact or_iff_left fun h => by omega
    refine ⟨i, x, here, fun j bound other => ?_, fun under higher => ?_, fun stays => ?_⟩
    · have at_ : events[j]? = some (events[j]'(full.symm ▸ bound)) := List.getElem?_eq_getElem _
      exact (higherPriority_iff at_ here).mpr (below j _ at_ other)
    · rw [entered, if_pos ⟨under, outranks.mp higher⟩]
    · rw [outranks] at stays
      exact entered.trans (if_neg fun h => stays.elim (Nat.not_le_of_lt h.1) fun lower => lower h.2)

/-! ### The taking of a raised event -/

theorem alarmLevel_eq (events : List EventRecord) (mask : Nat) :
    alarmLevel events mask = decide (∃ x ∈ events, mask < x.effective) := by
  rw [Bool.eq_iff_iff, alarmLevel_iff, decide_eq_true_iff]

/-- The state with the entry of event `e` taken, before its notice is handed over. -/
def State.entered (r : Raised) (s : State) : State :=
  let e := makeRecord s.settings s.now r
  { s with
    events := (entryOf s e).events
    lost := (entryOf s e).lost
    alarm := alarmLevel (entryOf s e).events s.settings.alarmMask
    trip := if r.natural = 7 then true else s.trip
    pulseEnd := if r.natural = 7 then some (s.now + Config.tripLength) else s.pulseEnd }

theorem takeRaised_eq (r : Raised) (s : State) : s.takeRaised r =
    if (entryOf s (makeRecord s.settings s.now r)).joined then (s.entered r).sendNotice (makeRecord s.settings s.now r)
    else s.entered r := by
  unfold State.takeRaised State.entered
  simp only [effective_eq_seven_iff]
  by_cases seven : r.natural = 7
  · simp only [if_pos seven]
    rfl
  · simp only [if_neg seven]
    rfl

theorem raise_seven {r : Raised} {s : State} (seven : r.natural = 7) : s.raise r = (s.takeRaised r).report .level7 none := by
  unfold State.raise
  dsimp only
  rw [if_pos seven]

/-- A report closes an OPEN window where its trigger is in the set (R124). -/
theorem report_level7 (s : State) : s.report .level7 none =
    if s.settings.triggers.level7 = true then s.closeWindow (.trigger .level7 none) else s := rfl

/-- Settles O45: the taking is the entry, then the notice. -/
theorem raisedEventIsTaken : Obligations.RaisedEventIsTaken := by
  unfold Obligations.RaisedEventIsTaken
  intro s r
  dsimp only
  have settings := (takeRaised_events r s).settings
  have entered : s.entered r = { s with
      events := (entryOf s (makeRecord s.settings s.now r)).events
      lost := (entryOf s (makeRecord s.settings s.now r)).lost
      alarm := decide (∃ x ∈ (entryOf s (makeRecord s.settings s.now r)).events, s.settings.alarmMask < x.effective)
      trip := if r.natural = 7 then true else s.trip
      pulseEnd := if r.natural = 7 then some (s.now + Config.ms 100) else s.pulseEnd } := by
    unfold State.entered
    dsimp only
    rw [alarmLevel_eq]
    rfl
  refine ⟨?_, ?_, ?_, fun below => raise_below_seven r s below, fun seven absent => ?_, fun seven set => ?_⟩
  · rw [takeRaised_eq]
    split
    · rw [sendNotice_onlyPorts, entered]
      rfl
    · rw [entered]
      rfl
  · rintro (kept | noNotice) <;> rw [takeRaised_eq]
    · rw [if_neg (show ¬ (entryOf s (makeRecord s.settings s.now r)).joined = true from by
        rw [Bool.not_eq_true]; exact kept), entered]
      exact ⟨rfl, rfl⟩
    · rw [State.sendNotice, show (s.entered r).settings.notice = none from noNotice, ite_self, entered]
      exact ⟨rfl, rfl⟩
  · intro d joined set
    have sent : s.takeRaised r = (s.entered r).handOver d.port .ordinary
        (partFrame (noticeFrame (s.entered r) (makeRecord s.settings s.now r) d.address) false) := by
      rw [takeRaised_eq, if_pos (show (entryOf s (makeRecord s.settings s.now r)).joined = true from joined), State.sendNotice,
        show (s.entered r).settings.notice = some d from set]
    have other : d.port.other ≠ d.port := by cases d.port <;> exact Port.noConfusion
    rw [sent, handOver_port, handOver_port, if_pos (rfl : d.port = d.port), if_neg other]
    have ports (p : Port) : (s.entered r).port p = s.port p := by cases p <;> rfl
    rw [ports, ports]
    exact ⟨rfl, rfl⟩
  · rw [raise_seven seven, report_level7, if_neg (by rw [settings, absent]; exact Bool.false_ne_true)]
  · rw [raise_seven seven, report_level7, if_pos (by rw [settings]; exact set)]

end Sys2Proof.Machine

/-! PROOFS. Where a field stands in a record that is written as a run of fields: the octets and slices of a concatenation. -/

namespace Sys2Proof.Machine

@[simp] theorem octetAt_append_left {a b : List Octet} {i : Nat} (h : i < a.length) : octetAt (a ++ b) i = octetAt a i :=
  List.getD_append _ _ _ _ h

@[simp] theorem octetAt_append_right {a b : List Octet} {i : Nat} (h : a.length ≤ i) : octetAt (a ++ b) i = octetAt b (i - a.length) :=
  List.getD_append_right _ _ _ _ h

@[simp] theorem octetAt_cons_zero (x : Octet) (o : List Octet) : octetAt (x :: o) 0 = x := rfl

@[simp] theorem slice_append_left {a b : List Octet} {i n : Nat} (h : i + n ≤ a.length) : slice (a ++ b) i n = slice a i n := by
  unfold slice
  rw [List.drop_append_of_le_length (by omega), List.take_append_of_le_length (by rw [List.length_drop]; omega)]

@[simp] theorem slice_append_right {a b : List Octet} {i n : Nat} (h : a.length ≤ i) : slice (a ++ b) i n = slice b (i - a.length) n := by
  unfold slice
  rw [List.drop_append, List.drop_eq_nil_of_le h, List.nil_append]

@[simp] theorem slice_cons_succ (x : Octet) (o : List Octet) (i n : Nat) : slice (x :: o) (i + 1) n = slice o i n := rfl

@[simp] theorem slice_all {o : List Octet} {n : Nat} (h : o.length = n) : slice o 0 n = o := by
  rw [slice, List.drop_zero, ← h, List.take_length]

theorem octetAt_drop (o : List Octet) (n i : Nat) : octetAt (o.drop n) i = octetAt o (n + i) := by
  simp [octetAt, List.getD_eq_getElem?_getD]

theorem slice_drop (o : List Octet) (m i n : Nat) : slice (o.drop m) i n = slice o (m + i) n := by
  rw [slice, List.drop_drop, slice]

theorem macAt_drop (o : List Octet) (m i : Nat) : macAt (o.drop m) i = macAt o (m + i) := by
  rw [macAt, slice_drop, macAt]

@[simp] theorem optIntOctets_length (v : Option Int) : (optIntOctets v).length = 8 := by
  cases v <;> simp [optIntOctets]

@[simp] theorem optMacOctets_length (m : Option Mac) : (optMacOctets m).length = 6 := by
  cases m <;> simp [optMacOctets]

theorem beNat_replicate_zero (n : Nat) : beNat (List.replicate n 0#8) = 0 := by
  induction n with
  | zero => rfl
  | succ n ih => simp [List.replicate_succ, beNat, ih]

/-- A number that fits its field is read back. -/
theorem beNat_beOctets_of_lt {n v : Nat} (h : v < 256 ^ n) : beNat (beOctets n v) = v := by
  rw [beNat_beOctets, Nat.mod_eq_of_lt h]

theorem beNat_word16Octets (w : Word16) : beNat (word16Octets w) = w.toNat := beNat_beOctets_of_lt w.isLt

theorem beNat_word32Octets (w : Word32) : beNat (word32Octets w) = w.toNat := beNat_beOctets_of_lt w.isLt

theorem beNat_macOctets (m : Mac) : beNat (macOctets m) = m.toNat := beNat_beOctets_of_lt m.isLt

/-- An integer stands in its field in two's complement. -/
theorem beNat_beOctetsInt (n : Nat) (v : Int) : (beNat (beOctetsInt n v) : Int) = v % (256 ^ n : Nat) := by
  have positive : (0 : Int) < (256 ^ n : Nat) := by positivity
  have least := Int.emod_nonneg v positive.ne'
  have bound := Int.emod_lt_of_pos v positive
  rw [beOctetsInt, beNat_beOctets_of_lt (by omega), Int.toNat_of_nonneg least]

theorem beNat_optIntOctets (v : Option Int) : (beNat (optIntOctets v) : Int) = match v with
    | some v => v % 2 ^ 64
    | none => 0 := by
  cases v with
  | none => exact congrArg _ (beNat_replicate_zero 8)
  | some v => rw [optIntOctets, beNat_beOctetsInt]; rfl

theorem beNat_optMacOctets (m : Option Mac) : beNat (optMacOctets m) = match m with
    | some m => m.toNat
    | none => 0 := by
  cases m with
  | none => exact beNat_replicate_zero 6
  | some m => exact beNat_macOctets m

/-! ### Codes -/

theorem FrameClass.ofCode_eq_some_iff (o : Octet) (x : FrameClass) : FrameClass.ofCode o = some x ↔ o = x.code := by
  constructor
  · intro read
    unfold FrameClass.ofCode at read
    split at read <;> cases read <;> exact BitVec.eq_of_toNat_eq ‹_›
  · rintro rfl
    cases x <;> rfl

theorem Role.ofCode_eq_some_iff (o : Octet) (x : Role) : Role.ofCode o = some x ↔ o = x.code := by
  constructor
  · intro read
    unfold Role.ofCode at read
    split at read <;> cases read <;> exact BitVec.eq_of_toNat_eq ‹_›
  · rintro rfl
    cases x <;> rfl

theorem ByteOrder.ofCode_eq_some_iff (o : Octet) (x : ByteOrder) : ByteOrder.ofCode o = some x ↔ o = x.code := by
  constructor
  · intro read
    unfold ByteOrder.ofCode at read
    split at read <;> cases read <;> exact BitVec.eq_of_toNat_eq ‹_›
  · rintro rfl
    cases x <;> rfl

theorem IdMode.ofCode_eq_some_iff (o : Octet) (x : IdMode) : IdMode.ofCode o = some x ↔ o = x.code := by
  constructor
  · intro read
    unfold IdMode.ofCode at read
    split at read <;> cases read <;> exact BitVec.eq_of_toNat_eq ‹_›
  · rintro rfl
    cases x <;> rfl

theorem Kind.ofCode_eq_some_iff (o : Octet) (x : Kind) : Kind.ofCode o = some x ↔ o = x.code := by
  constructor
  · intro read
    unfold Kind.ofCode at read
    split at read <;> cases read <;> exact BitVec.eq_of_toNat_eq ‹_›
  · rintro rfl
    cases x <;> rfl

theorem Policy.ofCode_eq_some_iff (o : Octet) (x : Policy) : Policy.ofCode o = some x ↔ o = x.code := by
  constructor
  · intro read
    unfold Policy.ofCode at read
    split at read <;> cases read <;> exact BitVec.eq_of_toNat_eq ‹_›
  · rintro rfl
    cases x <;> rfl

theorem BankId.ofCode_eq_some_iff (o : Octet) (x : BankId) : BankId.ofCode o = some x ↔ o = x.code := by
  constructor
  · intro read
    unfold BankId.ofCode at read
    split at read <;> cases read <;> exact BitVec.eq_of_toNat_eq ‹_›
  · rintro rfl
    cases x <;> rfl

theorem ForeignPolicy.ofCode_eq_some_iff (o : Octet) (x : ForeignPolicy) : ForeignPolicy.ofCode o = some x ↔ o = x.code := by
  constructor
  · intro read
    unfold ForeignPolicy.ofCode at read
    split at read <;> cases read <;> exact BitVec.eq_of_toNat_eq ‹_›
  · rintro rfl
    cases x <;> rfl

theorem EventKind.ofCode_eq_some_iff (o : Octet) (x : EventKind) : EventKind.ofCode o = some x ↔ o = x.code := by
  constructor
  · intro read
    unfold EventKind.ofCode at read
    split at read <;> cases read <;> exact BitVec.eq_of_toNat_eq ‹_›
  · rintro rfl
    cases x <;> rfl

theorem portOfCode_eq_some_iff (o : Octet) (p : Port) : portOfCode o = some p ↔ o = portCode p := by
  constructor
  · intro read
    unfold portOfCode at read
    split at read <;> cases read <;> exact BitVec.eq_of_toNat_eq ‹_›
  · rintro rfl
    cases p <;> rfl

theorem boolOfCode_eq_some_iff (o : Octet) (b : Bool) : boolOfCode o = some b ↔ o = boolCode b := by
  constructor
  · intro read
    unfold boolOfCode at read
    split at read <;> cases read <;> exact BitVec.eq_of_toNat_eq ‹_›
  · rintro rfl
    cases b <;> rfl

end Sys2Proof.Machine

/-! PROOFS. The event record in octets, and the requests to the event unit (R152 to R154). -/

namespace Sys2Proof.Machine

/-! ### The event record -/

/-- The presence octet of an event record. -/
def presenceOctet (e : EventRecord) : Octet :=
  presenceBit e.station 0x01 ||| presenceBit e.key 0x02 ||| presenceBit e.valueA 0x04 ||| presenceBit e.valueB 0x08 |||
    presenceBit e.reason 0x10 ||| presenceBit e.source 0x20

/-- The station octet of an event record. -/
def stationOctet : Option (Fin 32) → Octet
  | some n => BitVec.ofNat 8 n.val
  | none => 0

/-- The area and index octets of an event record. -/
def keyOctets : Option (Fin 16 × Word16) → List Octet
  | some (a, i) => [BitVec.ofNat 8 a.val] ++ word16Octets i
  | none => [0, 0, 0]

@[simp] theorem keyOctets_length (k : Option (Fin 16 × Word16)) : (keyOctets k).length = 3 := by
  rcases k with - | ⟨a, i⟩ <;> simp [keyOctets]

theorem eventOctets_eq (e : EventRecord) : eventOctets e =
    [e.kind.code, BitVec.ofNat 8 e.natural, BitVec.ofNat 8 e.effective, BitVec.ofNat 8 e.rank, boolCode e.forced,
      presenceOctet e, stationOctet e.station] ++ keyOctets e.key ++ optIntOctets e.valueA ++ optIntOctets e.valueB ++
      [optReasonOctet e.reason, optReasonOctet e.qualifier] ++ optMacOctets e.source ++ word32Octets e.time := rfl

/-- Each of the six bits of the presence octet stands for its own field. -/
theorem presenceOctet_toNat (e : EventRecord) : (presenceOctet e).toNat =
    e.station.isSome.toNat + 2 * e.key.isSome.toNat + 4 * e.valueA.isSome.toNat + 8 * e.valueB.isSome.toNat +
      16 * e.reason.isSome.toNat + 32 * e.source.isSome.toNat := by
  have bits : ∀ a b c d f g : Bool,
      ((if a then 0x01#8 else 0) ||| (if b then 0x02#8 else 0) ||| (if c then 0x04#8 else 0) ||| (if d then 0x08#8 else 0) |||
        (if f then 0x10#8 else 0) ||| (if g then 0x20#8 else 0)).toNat =
      a.toNat + 2 * b.toNat + 4 * c.toNat + 8 * d.toNat + 16 * f.toNat + 32 * g.toNat := by decide
  exact bits _ _ _ _ _ _

theorem stationOctet_toNat (x : Option (Fin 32)) : (stationOctet x).toNat = match x with
    | some n => n.val
    | none => 0 := by
  cases x with
  | none => rfl
  | some n =>
    rw [stationOctet, BitVec.toNat_ofNat]
    exact Nat.mod_eq_of_lt (by omega)

theorem keyOctets_fields (k : Option (Fin 16 × Word16)) :
    ((octetAt (keyOctets k) 0).toNat, beNat (slice (keyOctets k) 1 2)) = match k with
      | some (a, i) => (a.val, i.toNat)
      | none => (0, 0) := by
  rcases k with - | ⟨a, i⟩
  · rfl
  · refine Prod.ext ?_ (beNat_word16Octets i)
    rw [show octetAt (keyOctets (some (a, i))) 0 = BitVec.ofNat 8 a.val from rfl, BitVec.toNat_ofNat]
    exact Nat.mod_eq_of_lt (by omega)

theorem optReasonOctet_eq (r : Option Reason) : optReasonOctet r = match r with
    | some r => r.code
    | none => 0#8 := by cases r <;> rfl

theorem eventOctets_length (e : EventRecord) : (eventOctets e).length = 38 := by simp [eventOctets_eq]

/-- The fields of an event record at their offsets (chapter 12, *Event record*). -/
theorem eventOctets_fields (e : EventRecord) :
    (∀ i, i < 7 → octetAt (eventOctets e) i = octetAt [e.kind.code, BitVec.ofNat 8 e.natural, BitVec.ofNat 8 e.effective,
      BitVec.ofNat 8 e.rank, boolCode e.forced, presenceOctet e, stationOctet e.station] i) ∧
    octetAt (eventOctets e) 7 = octetAt (keyOctets e.key) 0 ∧ slice (eventOctets e) 8 2 = slice (keyOctets e.key) 1 2 ∧
    slice (eventOctets e) 10 8 = optIntOctets e.valueA ∧ slice (eventOctets e) 18 8 = optIntOctets e.valueB ∧
    octetAt (eventOctets e) 26 = optReasonOctet e.reason ∧ octetAt (eventOctets e) 27 = optReasonOctet e.qualifier ∧
    slice (eventOctets e) 28 6 = optMacOctets e.source ∧ slice (eventOctets e) 34 4 = word32Octets e.time := by
  rw [eventOctets_eq]
  refine ⟨fun i early => ?_, ?_, ?_, ?_, ?_, ?_, ?_, ?_, ?_⟩
  · simp only [List.append_assoc]
    exact octetAt_append_left early
  all_goals
    simp [octetAt_cons_succ]

/-! ### TAKE EVENT -/

theorem ownTakeEvent_none {q : Request} {s : State} (empty : s.events = []) :
    ownTakeEvent q s = accept (List.replicate 40 0 ++ beOctets 2 s.lost.toNat) s := by
  unfold ownTakeEvent
  rw [empty]
  rfl

theorem ownTakeEvent_some {q : Request} {s : State} {e : EventRecord} {rest : List EventRecord}
    (taken : takeHighest s.events = some (e, rest)) : ownTakeEvent q s =
      accept ([1] ++ eventOctets e ++ [BitVec.ofNat 8 rest.length] ++ word16Octets s.lost) ({ s with events := rest }).reAlarm := by
  unfold ownTakeEvent
  rw [taken]

/-- Settles O46: the layout field by field, the code tables, and the highest event that `takeHighest` finds. -/
theorem takeEventTakesTheHighest : Obligations.TakeEventTakesTheHighest := by
  unfold Obligations.TakeEventTakesTheHighest
  refine ⟨fun e => ?_, rfl, rfl, rfl, rfl, rfl, rfl, rfl, rfl, fun _ => rfl, rfl, fun _ => rfl, fun q s served => ⟨?_, ?_⟩⟩
  · obtain ⟨head, area, index, valueA, valueB, reason, qualifier, source, time⟩ := eventOctets_fields e
    refine ⟨eventOctets_length e, head 0 (by decide), head 1 (by decide), head 2 (by decide), head 3 (by decide), head 4 (by decide),
      (congrArg _ (head 5 (by decide))).trans (presenceOctet_toNat e),
      (congrArg _ (head 6 (by decide))).trans (stationOctet_toNat e.station), ?_, ?_, ?_,
      reason.trans (optReasonOctet_eq _), qualifier.trans (optReasonOctet_eq _), ?_, ?_⟩ <;> dsimp only
    · rw [area, index]; exact keyOctets_fields e.key
    · rw [valueA]; exact beNat_optIntOctets e.valueA
    · rw [valueB]; exact beNat_optIntOctets e.valueB
    · rw [source]; exact beNat_optMacOctets e.source
    · rw [time]; exact beNat_word32Octets e.time
  · intro empty
    exact exec_accepted .takeEvent q s _ _ served (ownTakeEvent_none (q := q) empty)
  · intro nonempty
    obtain ⟨i, e, here, taken, above⟩ := takeHighest_index nonempty
    refine ⟨i, e, here, fun j bound other => ?_, ?_⟩
    · exact (higherPriority_iff here (List.getElem?_eq_getElem bound)).mpr (above j _ (List.getElem?_eq_getElem bound) other)
    · have own := ownTakeEvent_some (q := q) (s := { s with now := q.time }) taken
      have left : (s.events.eraseIdx i).length = s.events.length - 1 :=
        List.length_eraseIdx_of_lt (List.getElem?_eq_some_iff.mp here).1
      rw [left, State.reAlarm, alarmLevel_eq] at own
      exact exec_accepted .takeEvent q s _ _ served own

/-! ### FORCE EVENT -/

/-- A FORCED event names no station, so no mask keeps it out. -/
theorem entryOf_forced (s : State) (level : Nat) (value : Int) (source : Mac) :
    entryOf s (makeRecord s.settings s.now (forcedEvent level value source)) =
      enterQueue s.events s.lost (makeRecord s.settings s.now (forcedEvent level value source)) := by
  have enters : mayEnter s.settings (makeRecord s.settings s.now (forcedEvent level value source)) = true :=
    (mayEnter_iff _ _).mpr (.inr (.inl rfl))
  rw [entryOf, if_pos enters]

theorem ownForceEvent_eq (q : Request) (s : State) : ownForceEvent q s =
    if 1 ≤ (octetAt (argsOf q) 0).toNat ∧ (octetAt (argsOf q) 0).toNat ≤ 7 ∧ -2147483648 ≤ toSigned 8 (natAt (argsOf q) 1 8) ∧
        toSigned 8 (natAt (argsOf q) 1 8) ≤ 281474976710655 then
      accept (forceResult (enterQueue s.events s.lost (makeRecord s.settings s.now
          (forcedEvent (octetAt (argsOf q) 0).toNat (toSigned 8 (natAt (argsOf q) 1 8)) q.requester))))
        (s.raise (forcedEvent (octetAt (argsOf q) 0).toNat (toSigned 8 (natAt (argsOf q) 1 8)) q.requester))
    else refuse .badValue s := by
  unfold ownForceEvent
  dsimp only
  rw [entryOf_forced, ← ite_not]
  refine if_congr ?_ rfl rfl
  rw [show Config.eventValueMin = -2147483648 from rfl, show Config.eventValueMax = 281474976710655 from rfl]
  omega

/-! ### SET EVENT CONTROL -/

theorem promotionOf_eq_some_iff (o : Octet) (x : Option EventKind) : promotionOf o = some x ↔
    (o = 0 ∧ x = none) ∨ ∃ k : EventKind, o = k.code ∧ x = some k ∧ k ≠ .envelopeBreach ∧ k ≠ .storeInvalid ∧ k ≠ .forced := by
  constructor
  · intro read
    unfold promotionOf at read
    split at read
    · next zero => cases read; exact .inl ⟨zero, rfl⟩
    · refine .inr ?_
      split at read <;> cases read <;>
        next listed => exact ⟨_, (EventKind.ofCode_eq_some_iff o _).mp listed, rfl, by decide⟩
  · rintro (⟨rfl, rfl⟩ | ⟨k, rfl, rfl, breach, invalid, forced⟩)
    · rfl
    · cases k <;> first | rfl | contradiction

theorem noticeOf_eq_some_iff (own : Mac) (o : List Octet) (x : Option NoticeDestination) : noticeOf own o = some x ↔
    (octetAt o 0 = 0 ∧ x = none) ∨
      (octetAt o 0 = 1 ∧ ∃ p, octetAt o 1 = portCode p ∧ macAt o 2 ≠ own ∧ x = some ⟨macAt o 2, p⟩) := by
  constructor
  · intro read
    unfold noticeOf at read
    split at read
    · next absent => cases read; exact .inl ⟨(boolOfCode_eq_some_iff _ false).mp absent, rfl⟩
    · next p present port =>
      split at read
      · cases read
      · next other =>
        cases read
        exact .inr ⟨(boolOfCode_eq_some_iff _ true).mp present, p, (portOfCode_eq_some_iff _ p).mp port, other, rfl⟩
    all_goals cases read
  · unfold noticeOf
    rintro (⟨zero, rfl⟩ | ⟨one, p, port, other, rfl⟩)
    · rw [(boolOfCode_eq_some_iff _ false).mpr zero]
    · rw [(boolOfCode_eq_some_iff _ true).mpr one, (portOfCode_eq_some_iff _ p).mpr port]
      exact if_neg other

theorem boolsAt_eq_some_iff (o : List Octet) (i n : Nat) (v : Vector Bool n) :
    boolsAt o i n = some v ↔ ∀ k : Fin n, octetAt o (i + k.val) = boolCode v[k] := by
  have valued (x : Octet) (b : Bool) (h : x = boolCode b) : decide (x = 1) = b := by subst h; cases b <;> rfl
  unfold boolsAt
  split
  · next listed =>
    rw [Option.some.injEq]
    constructor
    · rintro rfl k
      obtain ⟨b, read⟩ := Option.isSome_iff_exists.mp (List.all_eq_true.mp listed k.val (List.mem_range.mpr k.isLt))
      rw [boolOfCode_eq_some_iff] at read
      rw [Fin.getElem_fin, getElem_tabulate, valued _ b read]
      exact read
    · intro codes
      refine Vector.ext fun k bound => ?_
      rw [getElem_tabulate]
      exact valued _ _ (codes ⟨k, bound⟩)
  · next unlisted =>
    refine iff_of_false (Option.some_ne_none v).symm fun codes => unlisted (List.all_eq_true.mpr fun k member => ?_)
    rw [(boolOfCode_eq_some_iff _ _).mpr (codes ⟨k, List.mem_range.mp member⟩)]
    rfl

theorem exists_boolsAt_iff (o : List Octet) (i n : Nat) :
    (∃ v, boolsAt o i n = some v) ↔ ∀ k < n, octetAt o (i + k) = 0 ∨ octetAt o (i + k) = 1 := by
  constructor
  · rintro ⟨v, read⟩ k bound
    rw [(boolsAt_eq_some_iff o i n v).mp read ⟨k, bound⟩]
    cases v[(⟨k, bound⟩ : Fin n)]
    · exact .inl rfl
    · exact .inr rfl
  · intro codes
    refine ⟨tabulate fun k => decide (octetAt o (i + k.val) = 1), (boolsAt_eq_some_iff o i n _).mpr fun k => ?_⟩
    rw [Fin.getElem_fin, getElem_tabulate]
    rcases codes k.val k.isLt with zero | one
    · rw [zero]; rfl
    · rw [one]; rfl

theorem readEventControl_eq_some_iff (own : Mac) (o : List Octet) (c : EventControl) : readEventControl own o = some c ↔
    c.alarmMask = min 6 (octetAt o 0).toNat ∧ boolsAt o 1 32 = some c.enters ∧ boolsAt o 33 4 = some c.groupEnables ∧
      promotionOf (octetAt o 37) = some c.promotionA ∧ promotionOf (octetAt o 38) = some c.promotionB ∧
      noticeOf own (o.drop 39) = some c.notice := by
  simp only [readEventControl, Option.bind_eq_bind, Option.bind_eq_some_iff, Option.pure_def, Option.some.injEq]
  constructor
  · rintro ⟨_, enters, _, groups, _, a, _, b, _, notice, rfl⟩
    exact ⟨rfl, enters, groups, a, b, notice⟩
  · rintro ⟨mask, enters, groups, a, b, notice⟩
    refine ⟨_, enters, _, groups, _, a, _, b, _, notice, ?_⟩
    rw [show Config.maxAlarmMask = 6 from rfl, ← mask]

theorem exists_promotionOf_iff (o : Octet) : (∃ x, promotionOf o = some x) ↔
    o = 0 ∨ ∃ k : EventKind, o = k.code ∧ k ≠ .envelopeBreach ∧ k ≠ .storeInvalid ∧ k ≠ .forced := by
  simp only [promotionOf_eq_some_iff]
  constructor
  · rintro ⟨x, ⟨zero, -⟩ | ⟨k, code, -, good⟩⟩
    · exact .inl zero
    · exact .inr ⟨k, code, good⟩
  · rintro (zero | ⟨k, code, good⟩)
    · exact ⟨none, .inl ⟨zero, rfl⟩⟩
    · exact ⟨some k, .inr ⟨k, code, rfl, good⟩⟩

theorem exists_noticeOf_iff (own : Mac) (o : List Octet) : (∃ x, noticeOf own o = some x) ↔
    octetAt o 0 = 0 ∨ octetAt o 0 = 1 ∧ (octetAt o 1 = 1 ∨ octetAt o 1 = 2) ∧ macAt o 2 ≠ own := by
  simp only [noticeOf_eq_some_iff]
  constructor
  · rintro ⟨x, ⟨zero, -⟩ | ⟨one, p, port, other, -⟩⟩
    · exact .inl zero
    · exact .inr ⟨one, by rw [port]; cases p <;> decide, other⟩
  · rintro (zero | ⟨one, port | port, other⟩)
    · exact ⟨none, .inl ⟨zero, rfl⟩⟩
    · exact ⟨_, .inr ⟨one, .P, port, other, rfl⟩⟩
    · exact ⟨_, .inr ⟨one, .L, port, other, rfl⟩⟩

/-- The arguments of SET EVENT CONTROL can be read exactly where each part of them can. -/
theorem exists_readEventControl_iff (own : Mac) (o : List Octet) : (∃ c, readEventControl own o = some c) ↔
    (∃ v, boolsAt o 1 32 = some v) ∧ (∃ v, boolsAt o 33 4 = some v) ∧ (∃ x, promotionOf (octetAt o 37) = some x) ∧
      (∃ x, promotionOf (octetAt o 38) = some x) ∧ ∃ x, noticeOf own (o.drop 39) = some x := by
  simp only [readEventControl_eq_some_iff]
  constructor
  · rintro ⟨c, -, enters, groups, a, b, notice⟩
    exact ⟨⟨_, enters⟩, ⟨_, groups⟩, ⟨_, a⟩, ⟨_, b⟩, _, notice⟩
  · rintro ⟨⟨v, enters⟩, ⟨g, groups⟩, ⟨x, a⟩, ⟨y, b⟩, n, notice⟩
    exact ⟨⟨_, v, g, x, y, n⟩, rfl, enters, groups, a, b, notice⟩

/-- Settles O47: the owning rules' branches, and the fields each reader finds. -/
theorem eventRequestsAct : Obligations.EventRequestsAct := by
  unfold Obligations.EventRequestsAct
  refine ⟨fun q s served => ⟨fun fits => ?_, fun unfit => ?_⟩, fun q s served => ⟨fun unread => ?_, fun c read => ⟨?_, ?_⟩⟩,
    fun own o => ?_, fun own o c read => ?_⟩
  · have own := ownForceEvent_eq q { s with now := q.time }
    rw [if_pos (by exact fits)] at own
    exact exec_accepted .forceEvent q s _ _ served own
  · have own := ownForceEvent_eq q { s with now := q.time }
    rw [if_neg (by exact unfit)] at own
    exact exec_refused .forceEvent q s _ served own
  · refine exec_refused .setEventControl q s _ served ?_
    simp only [ownRule, ownSetEventControl, unread]
  · intro same set
    refine exec_refused .setEventControl q s _ served ?_
    simp only [ownRule, ownSetEventControl, read]
    exact if_pos ⟨same, set⟩
  · intro differ
    refine exec_accepted .setEventControl q s _ _ served ?_
    simp only [ownRule, ownSetEventControl, read]
    rw [if_neg fun h => differ.elim (fun d => d h.1) h.2, State.reAlarm, alarmLevel_eq]
    rfl
  · dsimp only
    rw [exists_readEventControl_iff, exists_boolsAt_iff, exists_boolsAt_iff, exists_promotionOf_iff, exists_promotionOf_iff,
      exists_noticeOf_iff, octetAt_drop, octetAt_drop, macAt_drop]
    have marks : ((∀ k < 32, octetAt o (1 + k) = 0 ∨ octetAt o (1 + k) = 1) ∧
        ∀ k < 4, octetAt o (33 + k) = 0 ∨ octetAt o (33 + k) = 1) ↔
        ∀ i, 1 ≤ i → i ≤ 36 → octetAt o i = 0 ∨ octetAt o i = 1 := by
      constructor
      · rintro ⟨stations, groups⟩ i least most
        by_cases early : i ≤ 32
        · have := stations (i - 1) (by omega)
          rwa [show 1 + (i - 1) = i by omega] at this
        · have := groups (i - 33) (by omega)
          rwa [show 33 + (i - 33) = i by omega] at this
      · exact fun all => ⟨fun k bound => all _ (by omega) (by omega), fun k bound => all _ (by omega) (by omega)⟩
    rw [← and_assoc, marks]
  · obtain ⟨mask, enters, groups, a, b, notice⟩ := (readEventControl_eq_some_iff own o c).mp read
    obtain ⟨-, promotable, elsewhere⟩ := readEventControl_some read
    have slot (x : Octet) (k : Option EventKind) : promotionOf x = some k → x = match k with
        | none => 0#8
        | some k => k.code := by
      intro read
      rcases (promotionOf_eq_some_iff x k).mp read with ⟨zero, rfl⟩ | ⟨k', code, rfl, -⟩
      · exact zero
      · exact code
    rw [noticeOf_eq_some_iff, octetAt_drop, octetAt_drop, macAt_drop] at notice
    refine ⟨mask, (boolsAt_eq_some_iff o 1 32 _).mp enters, (boolsAt_eq_some_iff o 33 4 _).mp groups, slot _ _ a, slot _ _ b,
      promotable, fun absent => ?_, fun d set => ?_⟩
    · rcases notice with ⟨zero, -⟩ | ⟨-, p, -, -, present⟩
      · exact zero
      · rw [absent] at present; cases present
    · rcases notice with ⟨-, none_⟩ | ⟨one, p, port, other, present⟩
      · rw [set] at none_; cases none_
      · rw [set] at present
        cases present
        exact ⟨one, port, rfl, other⟩

end Sys2Proof.Machine

/-! PROOFS. The responder: the checks before the owning rule (R160, R164), refusals (R161), requests it does not take (R158),
and what a requester that is no manager can touch. -/

namespace Sys2Proof.Machine

/-! ### The common checks -/

theorem isManager_iff (managers : Vector (Option Mac) 4) (m : Mac) : isManager managers m = true ↔
    (∀ i : Fin 4, managers[i] = none) ∨ ∃ i : Fin 4, managers[i] = some m := by
  simp only [isManager, Bool.or_eq_true, List.all_eq_true, List.any_eq_true, Vector.mem_toList_iff, Vector.mem_iff_getElem,
    Option.isNone_iff_eq_none, decide_eq_true_eq]
  constructor
  · rintro (empty | ⟨e, ⟨i, bound, holds⟩, rfl⟩)
    · exact .inl fun i => empty _ ⟨i.val, i.isLt, rfl⟩
    · exact .inr ⟨⟨i, bound⟩, holds⟩
  · rintro (empty | ⟨i, holds⟩)
    · exact .inl fun e ⟨i, bound, same⟩ => same ▸ empty ⟨i, bound⟩
    · exact .inr ⟨_, ⟨i.val, i.isLt, holds⟩, rfl⟩

theorem saving_iff (s : State) : s.saving = true ↔ ∃ copy, s.save = .saving copy := by
  cases save : s.save <;> simp [State.saving, save]

/-- A request refused before its owning rule is denied. -/
theorem exec_commonRefused {k : RequestKind} {q : Request} {s : State} {c : ResultCode} (hears : s.hears q)
    (refused : commonRefusal k q { s with now := q.time } = some c) : exec (k.command q) s = .next (s.denied k q c) := by
  rw [exec_command, State.request, take_hears q _ s hears, judge, refused]
  cases c <;> rfl

section
variable {k : RequestKind} {q : Request} {s : State}

theorem commonRefusal_restart (pending : s.restartPending = true) : commonRefusal k q s = some .busy := if_pos pending

theorem commonRefusal_length (free : s.restartPending = false) (bad : ¬ lengthSuits k q) :
    commonRefusal k q s = some .badLength := by
  have bad : q.argLength.toNat ≠ k.argLength ∨ q.octets.length < k.argLength := by
    unfold lengthSuits at bad
    omega
  rw [commonRefusal, free, if_neg Bool.false_ne_true, if_pos bad]

theorem commonRefusal_manager (free : s.restartPending = false) (good : lengthSuits k q) (bad : ¬ managerSuits k q s) :
    commonRefusal k q s = some .notManager := by
  have good : ¬ (q.argLength.toNat ≠ k.argLength ∨ q.octets.length < k.argLength) := by
    unfold lengthSuits at good
    omega
  have bad : k.privilege.needsManager = true ∧ isManager s.settings.managers q.requester = false := by
    simpa [managerSuits] using bad
  rw [commonRefusal, free, if_neg Bool.false_ne_true, if_neg good, if_pos bad]

/-- Past the first three checks, the key and the lock decide, and then the save. -/
theorem commonRefusal_key (free : s.restartPending = false) (good : lengthSuits k q) (manager : managerSuits k q s) :
    commonRefusal k q s = match k.privilege.keyRefusal s.keyPosition s.settings.lock with
      | some c => some c
      | none => if k.busyInSave = true ∧ s.saving = true then some .busy else none := by
  have good : ¬ (q.argLength.toNat ≠ k.argLength ∨ q.octets.length < k.argLength) := by
    unfold lengthSuits at good
    omega
  have manager : ¬ (k.privilege.needsManager = true ∧ isManager s.settings.managers q.requester = false) := by
    simpa [managerSuits] using manager
  rw [commonRefusal, free, if_neg Bool.false_ne_true, if_neg good, if_neg manager] <;> rfl

end

/-- Settles O4: each check is the one the request meets when those before it have passed. -/
theorem requestChecksInOrder : Obligations.RequestChecksInOrder := by
  unfold Obligations.RequestChecksInOrder
  refine ⟨rfl, fun k => by cases k <;> decide, fun c => by cases c <;> decide, isManager_iff, fun s => ⟨rfl, saving_iff s⟩,
    fun pos lock => by cases pos <;> cases lock <;> decide, fun k q s hears => ⟨?_, ?_, ?_, ?_, ?_⟩⟩
  · exact fun pending => exec_commonRefused hears (commonRefusal_restart pending)
  · exact fun free bad => exec_commonRefused hears (commonRefusal_length free bad)
  · exact fun free good bad => exec_commonRefused hears (commonRefusal_manager free good bad)
  · intro c free good manager refused
    refine exec_commonRefused hears ((commonRefusal_key free good manager).trans ?_)
    rw [show k.privilege.keyRefusal s.keyPosition s.settings.lock = some c from refused]
  · intro free good manager allowed busy saving
    refine exec_commonRefused hears ((commonRefusal_key free good manager).trans ?_)
    rw [show k.privilege.keyRefusal s.keyPosition s.settings.lock = none from allowed]
    exact if_pos ⟨busy, saving⟩

/-! ### Refusals by the owning rule -/

/-- An answer is OK, or a refusal that leaves its state. -/
def Answers (s : State) (a : Answer) : Prop := a.code ≠ .ok → a = refuse a.code s

theorem answers_refuse (c : ResultCode) (s : State) : Answers s (refuse c s) := fun _ => rfl

theorem answers_accept (result : List Octet) (s u : State) : Answers s (accept result u) := fun refused => absurd rfl refused

/-- Every owning rule accepts, or refuses and leaves the state. -/
theorem ownRule_answers (k : RequestKind) (q : Request) (s : State) : Answers s (ownRule k q s) := by
  cases k
  case readIdentity | readStatus | copyActiveToStaged | markStagedReady | lockTables | unlockTables | saveSettings | restart =>
    exact answers_accept _ s _
  all_goals
    simp only [ownRule, ownLoadProfile, ownReadProfile, ownLoadStation, ownReadStation, ownClearStation, ownLoadAreaPolicy,
      ownReadCounters, ownClearCounters, ownLoadParameter, ownClearParameter, ownReadParameter, ownActivateStaged, ownReadImage,
      ownForgetImage, ownOpenWindow, ownExtendWindow, ownCloseWindow, ownGrantService, ownEndService, ownQuarantineStation,
      ownReleaseStation, ownTakeEvent, ownForceEvent, ownSetEventControl, ownSetManagers, ownSetPortSettings,
      ownSetWindowSettings]
    repeat' split
    all_goals first
      | exact answers_refuse _ s
      | exact answers_accept _ s _

/-- Settles O5: an answer that is not OK is a refusal, and a refusal is denied. -/
theorem refusedRequestChangesNothing : Obligations.RefusedRequestChangesNothing := by
  unfold Obligations.RefusedRequestChangesNothing
  intro k q s served refused
  exact exec_refused k q s _ served (ownRule_answers k q _ refused)

/-! ### Requests that are not taken -/

theorem isGroup_iff (a : Mac) : isGroup a = true ↔ a.toNat / 2 ^ 40 % 2 = 1 := by
  rw [isGroup, BitVec.getLsbD, Nat.testBit_eq_decide_div_mod_eq, decide_eq_true_iff]

theorem code_range (k : RequestKind) : 1 ≤ k.code.toNat ∧ k.code.toNat ≤ 0x23 := by cases k <;> decide

/-- The codes of the directory are the octets 1 to 0x23. -/
theorem exists_code_iff (o : Octet) : (∃ k : RequestKind, k.code = o) ↔ 1 ≤ o.toNat ∧ o.toNat ≤ 0x23 := by
  constructor
  · rintro ⟨k, rfl⟩
    exact code_range k
  · rintro ⟨least, most⟩
    have all : ∀ n : Fin 0x23, ∃ k ∈ allKinds, k.code = BitVec.ofNat 8 (n.val + 1) := by decide
    obtain ⟨k, -, code⟩ := all ⟨o.toNat - 1, by omega⟩
    refine ⟨k, code.trans (BitVec.eq_of_toNat_eq ?_)⟩
    rw [BitVec.toNat_ofNat]
    dsimp only
    omega

theorem inDirectory_iff (version kind : Octet) :
    inDirectory version kind = true ↔ version = 1 ∧ ∃ k : RequestKind, k.code = kind := by
  rw [exists_code_iff, inDirectory, Bool.and_eq_true, Bool.and_eq_true, decide_eq_true_iff, decide_eq_true_iff, decide_eq_true_iff,
    and_assoc]
  rfl

/-- A management frame of no request of the directory is an unknown request. -/
theorem takeManagement_unknown {version kind : Octet} (absent : inDirectory version kind = false) (q : Request) (s : State) :
    s.takeManagement version kind q = s.unknown kind q := by
  unfold State.takeManagement
  split
  · next same =>
    split
    · next k found =>
      have present := (inDirectory_iff version kind).mpr ⟨same, k, RequestKind.ofCode_some found⟩
      rw [absent] at present
      cases present
    · rfl
  · rfl

theorem take_unheard {q : Request} {serve : State → State} {s : State} (unheard : (s.clock q.time).receives q.port = false) :
    s.take q serve = s.clock q.time := by
  unfold State.take
  dsimp only
  rw [unheard, if_neg Bool.false_ne_true]

theorem receives_of_not_running {s : State} {p : Port} (idle : s.phase ≠ .running) : s.receives p = false := by
  rw [State.receives, decide_eq_false idle, Bool.false_and]

/-- Settles O6: the cases of `State.take`, and the answer to an unknown request. -/
theorem unheardAndUnknownRequests : Obligations.UnheardAndUnknownRequests := by
  unfold Obligations.UnheardAndUnknownRequests
  refine ⟨isGroup_iff, inDirectory_iff, fun k q s => ⟨?_, ?_, ?_, ?_⟩, fun version kind q s hears absent => ?_⟩
  · intro ready group
    obtain ⟨clocked, receives⟩ := clock_ready q.port q.time s ready
    rw [exec_command, State.request, State.take, receives, if_pos rfl, group, if_pos rfl, clocked]
  · intro running later down lost
    have clocked := clock_alive q.time s (alive_of_running running) later
    have deaf : ({ s with now := q.time } : State).receives q.port = false := by
      have port : ({ s with now := q.time } : State).port q.port = s.port q.port := by cases q.port <;> rfl
      rw [State.receives, port, PortState.heardAt, down, decide_eq_false lost]
      exact Bool.and_false _
    rw [exec_command, State.request, take_unheard (by rw [clocked]; exact deaf), clocked]
  · intro loading later
    have alive : s.phase.alive = true := by cases phase : s.phase <;> simp_all [Phase.loading, Phase.alive]
    have idle : s.phase ≠ .running := by rintro running; rw [running] at loading; cases loading
    have clocked := clock_alive q.time s alive later
    rw [exec_command, State.request, take_unheard (by rw [clocked]; exact receives_of_not_running idle), clocked]
  · intro dead
    have idle : s.phase ≠ .running := by rintro running; rw [running] at dead; cases dead
    have clocked : s.clock q.time = s := by
      unfold State.clock
      cases phase : s.phase <;> simp_all [Phase.alive]
    rw [exec_command, State.request, take_unheard (by rw [clocked]; exact receives_of_not_running idle), clocked]
  · change Host.Outcome.next (s.takeManagement version kind q) = _
    rw [takeManagement_unknown absent, State.unknown, take_hears q _ s hears]
    cases s.restartPending <;> rfl

/-! ### A requester that is no manager -/

/-- `u` is `s` but for what a refusal and a reply touch. -/
def OnlyReply (s u : State) : Prop :=
  u = { s with now := u.now, portP := u.portP, portL := u.portL, events := u.events, lost := u.lost, alarm := u.alarm }

theorem OnlyReply.trans {s t u : State} (a : OnlyReply s t) (b : OnlyReply t u) : OnlyReply s u := by
  unfold OnlyReply at *
  rw [b, a]

theorem OnlyPorts.toReply {s u : State} (ports : OnlyPorts s u) : OnlyReply s u := by
  unfold OnlyPorts OnlyReply at *
  rw [ports]

theorem clock_onlyReply (t : Nat) (s : State) : OnlyReply s (s.clock t) := by
  unfold State.clock
  split <;> rfl

/-- An event below level 7 moves neither TRIP nor the window. -/
theorem raise_onlyReply {r : Raised} (below : r.natural ≠ 7) (s : State) : OnlyReply s (s.raise r) := by
  have entered : OnlyReply s (s.entered r) := by simp only [OnlyReply, State.entered, if_neg below]
  rw [raise_below_seven r s below, takeRaised_eq]
  split
  · exact entered.trans (sendNotice_onlyPorts _ _).toReply
  · exact entered

/-- A refused request touches what its event and its reply touch. -/
theorem complete_onlyReply (kind : Octet) (restart : Bool) (q : Request) (a : Answer) {s : State} (unmoved : a.state = s)
    (mark : (restart && decide (a.code = .ok)) = false) : OnlyReply s (s.complete kind restart q a) := by
  have reported : OnlyReply s (a.report kind q) := by
    unfold Answer.report
    rw [unmoved]
    split
    · exact raise_onlyReply (show (managementRefusedEvent kind a.code q.requester).natural ≠ 7 from (by decide : (2 : Nat) ≠ 7)) s
    · rfl
  unfold State.complete
  rw [mark]
  exact reported.trans (sendReply_onlyPorts _ _ false _ (.inl rfl)).toReply

theorem keyRefusal_ne_ok (c : Privilege) (pos : KeyPosition) (lock : Lock) : c.keyRefusal pos lock ≠ some .ok := by
  cases c <;> cases pos <;> cases lock <;> decide

theorem commonRefusal_ne_ok (k : RequestKind) (q : Request) (s : State) : commonRefusal k q s ≠ some .ok := by
  intro accepted
  have key := keyRefusal_ne_ok k.privilege s.keyPosition s.settings.lock
  unfold commonRefusal at accepted
  repeat' split at accepted
  all_goals first
    | (cases accepted; done)
    | exact key (‹_ = some _›.trans accepted)

/-- A request that passes the checks comes from a manager, where its class needs one. -/
theorem needsManager_of_passed {k : RequestKind} {q : Request} {s : State} (passed : commonRefusal k q s = none)
    (stranger : isManager s.settings.managers q.requester = false) : k.privilege.needsManager = false := by
  by_contra needs
  rw [Bool.not_eq_false] at needs
  unfold commonRefusal at passed
  rw [if_pos (⟨needs, stranger⟩ : k.privilege.needsManager = true ∧ isManager s.settings.managers q.requester = false)] at passed
  split at passed
  · cases passed
  · split at passed <;> cases passed

/-- Only a reading request of a requester that is no manager reaches its owning rule, with the key out of SERVICE. -/
theorem judge_nonManager {k : RequestKind} {q : Request} {s : State} (stranger : isManager s.settings.managers q.requester = false)
    (key : s.keyPosition ≠ .service) : (judge k (ownRule k) q s).state = s ∧
      (decide (k = .restart) && decide ((judge k (ownRule k) q s).code = .ok)) = false := by
  unfold judge
  split
  · next c refused =>
    have notOk : c ≠ .ok := fun ok => commonRefusal_ne_ok k q s (ok ▸ refused)
    exact ⟨rfl, by rw [show (refuse c s).code = c from rfl, decide_eq_false notOk, Bool.and_false]⟩
  · next passed =>
    have allowed := commonRefusal_keyRefusal passed
    have noManager := needsManager_of_passed passed stranger
    have opens : k.privilege = .open_ := by
      cases privilege : k.privilege <;> rw [privilege] at noManager allowed
      case recovery => simp only [Privilege.keyRefusal, if_neg key] at allowed; cases allowed
      all_goals first
        | rfl
        | cases noManager
    have other : k ≠ .restart := by rintro rfl; cases opens
    exact ⟨ownRead_moves k opens, by rw [decide_eq_false other, Bool.false_and]⟩

/-- Settles O60: such a request is refused or reads, so it touches what its event and its reply touch. -/
theorem nonManagerChangesNothing : Obligations.NonManagerChangesNothing := by
  unfold Obligations.NonManagerChangesNothing
  intro k q s s' stranger key taken
  rw [exec_command] at taken
  cases taken
  have clocked := clock_onlyReply q.time s
  have settings := clock_settings q.time s
  have keyed : (s.clock q.time).keyPosition = s.keyPosition := congrArg (fun x => x.taken.position) (clock_key q.time s)
  change OnlyReply s (s.request k (ownRule k) q)
  unfold State.request State.take
  simp only
  split
  · split
    · exact clocked.trans (setPort_onlyPorts q.port _ _).toReply
    · obtain ⟨unmoved, mark⟩ := judge_nonManager (k := k) (q := q) (s := s.clock q.time) (by rw [settings]; exact stranger)
        (by rw [keyed]; exact key)
      exact clocked.trans (complete_onlyReply _ _ q _ unmoved mark)
  · exact clocked

end Sys2Proof.Machine

/-! PROOFS. The frames the part forms (R158, R179), and the management frame as the request it carries (R159). -/

namespace Sys2Proof.Machine

/-! ### Fields of a frame -/

theorem macAt_of_slice {o : List Octet} {i : Nat} {m : Mac} (h : slice o i 6 = macOctets m) : macAt o i = m := by
  rw [macAt, h, beNat_macOctets, BitVec.ofNat_toNat, BitVec.setWidth_eq]

theorem word16At_of_slice {o : List Octet} {i : Nat} {w : Word16} (h : slice o i 2 = word16Octets w) : word16At o i = w := by
  rw [word16At, h, beNat_word16Octets, BitVec.ofNat_toNat, BitVec.setWidth_eq]

/-- The header of a formed frame: the addresses, the tag where there is one, and the type. -/
def headerOctets (dst src : Mac) (tci : Option Word16) (type : Word16) : List Octet :=
  macOctets dst ++ macOctets src ++ (match tci with
    | some t => word16Octets Config.vlanType ++ word16Octets t
    | none => []) ++ word16Octets type

theorem headerOctets_length (dst src : Mac) (tci : Option Word16) (type : Word16) :
    (headerOctets dst src tci type).length = if tci.isSome then 18 else 14 := by
  cases tci <;> simp [headerOctets]

/-- The zero octets that fill a formed frame up to 64 octets. -/
def padding (tci : Option Word16) (content : List Octet) : List Octet :=
  List.replicate (60 - ((if tci.isSome then 18 else 14) + content.length)) 0#8

theorem formFrame_eq (dst src : Mac) (tci : Option Word16) (type : Word16) (content : List Octet) :
    formFrame dst src tci type content = withFcs (headerOctets dst src tci type ++ (content ++ padding tci content)) := by
  have length := headerOctets_length dst src tci type
  rw [← List.append_assoc, padding, ← length, ← List.length_append]
  cases tci <;> rfl

section
variable {dst src : Mac} {tci : Option Word16} {type : Word16} {content : List Octet}

theorem formFrame_length : (formFrame dst src tci type content).length =
    (if tci.isSome then 18 else 14) + content.length + (60 - ((if tci.isSome then 18 else 14) + content.length)) + 4 := by
  rw [formFrame_eq, withFcs_length, List.length_append, headerOctets_length, List.length_append, padding, List.length_replicate,
    ← Nat.add_assoc]

theorem formFrame_destination : frameDestination (formFrame dst src tci type content) = dst := by
  refine macAt_of_slice ?_
  rw [formFrame_eq]
  simp [withFcs, headerOctets]

theorem formFrame_source : frameSource (formFrame dst src tci type content) = src := by
  refine macAt_of_slice ?_
  rw [formFrame_eq]
  simp [withFcs, headerOctets]

variable (plain : type ≠ 0x8100#16)
include plain

theorem formFrame_isTagged : isTagged (formFrame dst src tci type content) = tci.isSome := by
  cases tci with
  | none =>
    have field : word16At (formFrame dst src none type content) 12 = type := by
      refine word16At_of_slice ?_
      rw [formFrame_eq]
      simp [withFcs, headerOctets]
    rw [isTagged, field]
    exact decide_eq_false plain
  | some t =>
    have field : word16At (formFrame dst src (some t) type content) 12 = Config.vlanType := by
      refine word16At_of_slice ?_
      rw [formFrame_eq]
      simp [withFcs, headerOctets]
    rw [isTagged, field]
    exact decide_eq_true rfl

theorem formFrame_tci : frameTci (formFrame dst src tci type content) = tci := by
  rw [frameTci, formFrame_isTagged plain]
  cases tci with
  | none => rfl
  | some t =>
    rw [if_pos (show (some t).isSome = true from rfl)]
    refine congrArg _ (word16At_of_slice ?_)
    rw [formFrame_eq]
    simp [withFcs, headerOctets]

theorem formFrame_type : frameType (formFrame dst src tci type content) = type := by
  rw [frameType, formFrame_isTagged plain]
  cases tci <;> refine word16At_of_slice ?_ <;> rw [formFrame_eq] <;> simp [withFcs, headerOctets]

theorem formFrame_payload : payload (formFrame dst src tci type content) = content ++ padding tci content := by
  have header : headerLength (formFrame dst src tci type content) = (headerOctets dst src tci type).length := by
    rw [headerLength, formFrame_isTagged plain, headerOctets_length]
  rw [payload, header, formFrame_eq, frameBody_withFcs, List.drop_left]

end

/-- Settles O7: the content's fields, and the frame's by the header it is formed with. -/
theorem replyFrameIsWellFormed : Obligations.ReplyFrameIsWellFormed := by
  unfold Obligations.ReplyFrameIsWellFormed
  refine ⟨fun kind number code result short => ?_, fun dst src tci type content fits plain => ?_⟩
  · have field : slice (replyContent kind number code result) 4 2 = beOctets 2 result.length := by
      simp [replyContent]
    have rest : (replyContent kind number code result).drop 6 = result := by
      rw [replyContent]
      exact List.drop_left' (by simp)
    refine ⟨by simp [replyContent]; omega, rfl, rfl, rfl, rfl, ?_, rest⟩
    rw [field, beNat_beOctets_of_lt short]
  · have length := formFrame_length (dst := dst) (src := src) (tci := tci) (type := type) (content := content)
    have header : (if tci.isSome then 18 else 14) ≤ 18 := by split <;> omega
    have filled : (payload (formFrame dst src tci type content)).length - content.length = (padding tci content).length := by
      rw [formFrame_payload plain, List.length_append, Nat.add_sub_cancel_left]
    refine ⟨by rw [formFrame_eq, fcsGood_withFcs], by omega, by omega, formFrame_destination, formFrame_source,
      formFrame_tci plain, formFrame_type plain, ?_, ?_⟩
    · rw [filled, formFrame_payload plain, padding, List.length_replicate]
    · rw [formFrame_payload plain, List.length_append, padding, List.length_replicate]
      omega

/-! ### The management frame of a request -/

section
variable {k : RequestKind} {q : Request} {own : Mac} {type : Word16} (wellFormed : q.wellFormed = true) (plain : type ≠ 0x8100#16)

/-- The payload octets of a request. -/
def requestContent (k : RequestKind) (q : Request) : List Octet :=
  [Config.protocolVersion, k.code, q.number] ++ word16Octets q.argLength ++ q.octets

theorem requestFrame_eq : requestFrame own type Config.protocolVersion k.code q =
    formFrame own q.requester q.tci type (requestContent k q) := rfl

include wellFormed

theorem requestFrame_length : 64 ≤ (requestFrame own type Config.protocolVersion k.code q).length ∧
    (requestFrame own type Config.protocolVersion k.code q).length ≤ 1522 ∧ padding q.tci (requestContent k q) = [] := by
  have content : (requestContent k q).length = 5 + q.octets.length := by simp [requestContent]; omega
  rw [Request.wellFormed, Bool.and_eq_true, decide_eq_true_eq, decide_eq_true_eq, Request.frameLength,
    show Config.minFrameLength = 64 from rfl, show Config.maxFrameLength = 1522 from rfl] at wellFormed
  have header : (if q.tci.isSome then 18 else 14) = 14 + if q.tci.isSome then 4 else 0 := by split <;> rfl
  rw [requestFrame_eq, formFrame_length, content, padding, content, header]
  refine ⟨by omega, by omega, ?_⟩
  rw [show 60 - (14 + (if q.tci.isSome then 4 else 0) + (5 + q.octets.length)) = 0 by omega]
  rfl

include plain

theorem requestFrame_payload : payload (requestFrame own type Config.protocolVersion k.code q) = requestContent k q := by
  rw [requestFrame_eq, formFrame_payload plain, (requestFrame_length (own := own) (type := type) wellFormed).2.2, List.append_nil]

/-- The request a request's frame carries is the request. -/
theorem requestOf_requestFrame : requestOf q.time q.port (requestFrame own type Config.protocolVersion k.code q) = q := by
  have payload := requestFrame_payload (own := own) (k := k) wellFormed plain
  have length : word16At (requestContent k q) 3 = q.argLength := word16At_of_slice (by simp [requestContent])
  have rest : (requestContent k q).drop 5 = q.octets := List.drop_left' (by simp)
  unfold requestOf
  rw [payload, length, rest, requestFrame_eq, formFrame_tci plain, formFrame_source]
  rfl

/-- The frame of a request is received as a management frame. -/
theorem classifyArrival_requestFrame (st : Settings) (own : Mac) (notFlow : st.managementType ≠ 0x8808#16) (port : Port)
    (same : type = st.managementType) :
    classifyArrival st own port (requestFrame own type Config.protocolVersion k.code q) = .management := by
  obtain ⟨least, most, -⟩ := requestFrame_length (k := k) (own := own) (type := type) wellFormed
  have fcs : fcsGood (requestFrame own type Config.protocolVersion k.code q) = true := by
    rw [requestFrame_eq, formFrame_eq, fcsGood_withFcs]
  have frameType_ : frameType (requestFrame own type Config.protocolVersion k.code q) = type := formFrame_type plain
  have destination : frameDestination (requestFrame own type Config.protocolVersion k.code q) = own := formFrame_destination
  rw [classifyArrival, fcs, if_neg Bool.noConfusion, if_neg, frameType_, if_neg, classifyAccepted,
    if_pos destination, frameType_, if_pos same]
  · rw [same]; exact notFlow
  · rw [show Config.minFrameLength = 64 from rfl, show Config.maxFrameLength = 1522 from rfl]
    omega

end

theorem clock_clock (t : Nat) (s : State) : (s.clock t).clock t = s.clock t := by
  cases phase : s.phase <;> simp [State.clock, phase]

theorem take_clock (q : Request) (serve : State → State) (s : State) : (s.clock q.time).take q serve = s.take q serve := by
  unfold State.take
  rw [clock_clock]

theorem ofCode_code (k : RequestKind) : RequestKind.ofCode k.code = some k := by cases k <;> rfl

/-- Settles O3: the arrival reads the request back and hands it to the responder. -/
theorem managementFrameIsItsRequest : Obligations.ManagementFrameIsItsRequest := by
  unfold Obligations.ManagementFrameIsItsRequest
  intro k q s wellFormed plain notFlow
  have class_ := classifyArrival_requestFrame (k := k) wellFormed plain s.settings s.identity.address notFlow q.port rfl
  have payload := requestFrame_payload (own := s.identity.address) (k := k) wellFormed plain
  have carried := requestOf_requestFrame (own := s.identity.address) (k := k) wellFormed plain
  have served : (s.clock q.time).takeManagement Config.protocolVersion k.code q = s.request k (ownRule k) q := by
    rw [State.takeManagement, if_pos rfl, ofCode_code]
    exact take_clock q _ s
  rw [exec_command]
  change execFrameArrival q.time q.port true _ s = _
  unfold execFrameArrival
  dsimp only
  rw [clock_settings, clock_identity, class_, Bool.and_true]
  split
  · rw [payload, carried]
    exact congrArg _ served
  · next deaf =>
    rw [State.request, take_unheard (by simpa using deaf)]

end Sys2Proof.Machine

/-! PROOFS. The records requests carry: parameter records, station configurations and profiles in octets (chapter 12). -/

namespace Sys2Proof.Machine

/-! ### Small fields -/

theorem toNat_ofNat_fin {m : Nat} (small : m ≤ 256) (n : Fin m) : (BitVec.ofNat 8 n.val).toNat = n.val := by
  rw [BitVec.toNat_ofNat]
  exact Nat.mod_eq_of_lt (lt_of_lt_of_le n.isLt small)

theorem finOfNat_val {m : Nat} (n : Fin m) : finOfNat m n.val = some n := dif_pos n.isLt

theorem word16At_eq_iff (o : List Octet) (i : Nat) (w : Word16) : word16At o i = w ↔ w.toNat = beNat (slice o i 2) := by
  rw [← BitVec.toNat_inj, word16At_toNat, eq_comm]

theorem macAt_eq_iff (o : List Octet) (i : Nat) (m : Mac) : macAt o i = m ↔ m.toNat = beNat (slice o i 6) := by
  rw [← BitVec.toNat_inj, macAt_toNat, eq_comm]

/-! ### Parameter records -/

theorem paramOctets_fields (r : ParamRecord) :
    (paramOctets r).length = 34 ∧ octetAt (paramOctets r) 0 = BitVec.ofNat 8 r.key.station.val ∧
    octetAt (paramOctets r) 1 = BitVec.ofNat 8 r.key.area.val ∧ slice (paramOctets r) 2 2 = word16Octets r.key.index ∧
    octetAt (paramOctets r) 4 = r.kind.code ∧ slice (paramOctets r) 5 4 = beOctetsInt 4 r.runLo ∧
    slice (paramOctets r) 9 4 = beOctetsInt 4 r.runHi ∧ slice (paramOctets r) 13 4 = beOctetsInt 4 r.chgLo ∧
    slice (paramOctets r) 17 4 = beOctetsInt 4 r.chgHi ∧ octetAt (paramOctets r) 21 = boolCode r.stepLimits ∧
    slice (paramOctets r) 22 4 = beOctets 4 r.stepUp ∧ slice (paramOctets r) 26 4 = beOctets 4 r.stepDown ∧
    slice (paramOctets r) 30 2 = beOctets 2 r.quantum ∧ octetAt (paramOctets r) 32 = r.policy.code ∧
    octetAt (paramOctets r) 33 = BitVec.ofNat 8 r.criticality := by
  unfold paramOctets
  refine ⟨?_, ?_, ?_, ?_, ?_, ?_, ?_, ?_, ?_, ?_, ?_, ?_, ?_, ?_, ?_⟩ <;> simp [octetAt_cons_succ]

theorem readParamRecord_eq_some_iff (o : List Octet) (r : ParamRecord) : readParamRecord o = some r ↔
    finOfNat 32 (octetAt o 0).toNat = some r.key.station ∧ finOfNat 16 (octetAt o 1).toNat = some r.key.area ∧
    word16At o 2 = r.key.index ∧ Kind.ofCode (octetAt o 4) = some r.kind ∧ boundAt r.kind o 5 = r.runLo ∧
    boundAt r.kind o 9 = r.runHi ∧ boundAt r.kind o 13 = r.chgLo ∧ boundAt r.kind o 17 = r.chgHi ∧
    boolOfCode (octetAt o 21) = some r.stepLimits ∧ natAt o 22 4 = r.stepUp ∧ natAt o 26 4 = r.stepDown ∧
    natAt o 30 2 = r.quantum ∧ Policy.ofCode (octetAt o 32) = some r.policy ∧ (octetAt o 33).toNat = r.criticality ∧
    (1 ≤ r.quantum ∧ 1 ≤ r.criticality ∧ r.criticality ≤ 7) := by
  simp only [readParamRecord, Option.bind_eq_bind, Option.bind_eq_some_iff, Option.pure_def, Option.ite_none_right_eq_some,
    Option.some.injEq]
  constructor
  · rintro ⟨_, station, _, area, _, kind, _, steps, _, policy, ranges, rfl⟩
    exact ⟨station, area, rfl, kind, rfl, rfl, rfl, rfl, steps, rfl, rfl, rfl, policy, rfl, ranges⟩
  · obtain ⟨⟨_, _, _⟩, _, _, _, _, _, _, _, _, _, _, _⟩ := r
    dsimp only
    rintro ⟨station, area, rfl, kind, rfl, rfl, rfl, rfl, steps, rfl, rfl, rfl, policy, rfl, ranges⟩
    exact ⟨_, station, _, area, _, kind, _, steps, _, policy, ranges, rfl⟩

/-- A value in its kind's range is read back from its four octets. -/
theorem interpret_beOctetsInt {k : Kind} {v : Int} (range : k.inRange v = true) : k.interpret 4 (beNat (beOctetsInt 4 v)) = v := by
  have read := beNat_beOctetsInt 4 v
  simp only [Kind.inRange, Bool.and_eq_true, decide_eq_true_eq] at range
  rw [Kind.interpret_bound, kindReads]
  cases k <;> simp only [Kind.least, Kind.greatest] at range <;> simp only [reduceCtorEq, or_self, or_false, or_true,
    false_and, true_and, if_false] <;> norm_num at read ⊢ <;> (try split) <;> omega

theorem readParamRecord_paramOctets {r : ParamRecord} (sound : RecordSound r) (small : r.quantum ≤ 65535) :
    readParamRecord (paramOctets r) = some r := by
  obtain ⟨-, station, area, index, kind, runLo, runHi, chgLo, chgHi, steps, stepUp, stepDown, quantum, policy, criticality⟩ :=
    paramOctets_fields r
  obtain ⟨inChgLo, inRunLo, inRunHi, inChgHi⟩ := sound.range
  have span : r.chgHi - r.chgLo ≤ 4294967295 := by
    simp only [Kind.inRange, Bool.and_eq_true, decide_eq_true_eq] at inChgLo inChgHi
    cases kind_ : r.kind <;> simp only [kind_, Kind.least, Kind.greatest] at inChgLo inChgHi <;> omega
  obtain ⟨-, -, up, down⟩ := sound.steps
  rw [readParamRecord_eq_some_iff, station, area, kind, steps, policy, criticality]
  refine ⟨?_, ?_, word16At_of_slice index, (Kind.ofCode_eq_some_iff _ _).mpr rfl, ?_, ?_, ?_, ?_, (boolOfCode_eq_some_iff _ _).mpr rfl,
    ?_, ?_, ?_, (Policy.ofCode_eq_some_iff _ _).mpr rfl, ?_, sound.quantum, sound.criticality⟩
  · rw [toNat_ofNat_fin (by decide), finOfNat_val]
  · rw [toNat_ofNat_fin (by decide), finOfNat_val]
  · rw [boundAt, natAt, runLo, interpret_beOctetsInt inRunLo]
  · rw [boundAt, natAt, runHi, interpret_beOctetsInt inRunHi]
  · rw [boundAt, natAt, chgLo, interpret_beOctetsInt inChgLo]
  · rw [boundAt, natAt, chgHi, interpret_beOctetsInt inChgHi]
  · rw [natAt, stepUp, beNat_beOctets_of_lt (by norm_num; omega)]
  · rw [natAt, stepDown, beNat_beOctets_of_lt (by norm_num; omega)]
  · rw [natAt, quantum, beNat_beOctets_of_lt (by norm_num; omega)]
  · rw [BitVec.toNat_ofNat]
    have := sound.criticality.2
    omega

theorem Kind.exists_ofCode_iff (o : Octet) : (∃ k, Kind.ofCode o = some k) ↔ 1 ≤ o.toNat ∧ o.toNat ≤ 4 := by
  unfold Kind.ofCode
  split <;> simp_all
  omega

theorem Policy.exists_ofCode_iff (o : Octet) : (∃ k, Policy.ofCode o = some k) ↔ 1 ≤ o.toNat ∧ o.toNat ≤ 2 := by
  unfold Policy.ofCode
  split <;> simp_all
  omega

/-- A parameter record is read exactly where each of its coded fields is. -/
theorem exists_readParamRecord_iff (o : List Octet) : (∃ r, readParamRecord o = some r) ↔
    (octetAt o 0).toNat ≤ 31 ∧ (octetAt o 1).toNat ≤ 15 ∧ 1 ≤ (octetAt o 4).toNat ∧ (octetAt o 4).toNat ≤ 4 ∧
    (octetAt o 21).toNat ≤ 1 ∧ 1 ≤ beNat (slice o 30 2) ∧ 1 ≤ (octetAt o 32).toNat ∧ (octetAt o 32).toNat ≤ 2 ∧
    1 ≤ (octetAt o 33).toNat ∧ (octetAt o 33).toNat ≤ 7 := by
  have named : (∃ r, readParamRecord o = some r) ↔ (∃ n, finOfNat 32 (octetAt o 0).toNat = some n) ∧
      (∃ a, finOfNat 16 (octetAt o 1).toNat = some a) ∧ (∃ k, Kind.ofCode (octetAt o 4) = some k) ∧
      (∃ b, boolOfCode (octetAt o 21) = some b) ∧ (∃ p, Policy.ofCode (octetAt o 32) = some p) ∧
      1 ≤ beNat (slice o 30 2) ∧ 1 ≤ (octetAt o 33).toNat ∧ (octetAt o 33).toNat ≤ 7 := by
    constructor
    · rintro ⟨r, read⟩
      obtain ⟨station, area, -, kind, -, -, -, -, steps, -, -, quantum, policy, criticality, least, low, high⟩ :=
        (readParamRecord_eq_some_iff o r).mp read
      rw [natAt] at quantum
      exact ⟨⟨_, station⟩, ⟨_, area⟩, ⟨_, kind⟩, ⟨_, steps⟩, ⟨_, policy⟩, quantum ▸ least, criticality ▸ low, criticality ▸ high⟩
    · rintro ⟨⟨n, station⟩, ⟨a, area⟩, ⟨k, kind⟩, ⟨b, steps⟩, ⟨p, policy⟩, ranges⟩
      exact ⟨⟨⟨n, a, word16At o 2⟩, k, boundAt k o 5, boundAt k o 9, boundAt k o 13, boundAt k o 17, b, natAt o 22 4, natAt o 26 4,
        natAt o 30 2, p, (octetAt o 33).toNat⟩, (readParamRecord_eq_some_iff o _).mpr
        ⟨station, area, rfl, kind, rfl, rfl, rfl, rfl, steps, rfl, rfl, rfl, policy, rfl, ranges⟩⟩
  rw [named, exists_finOfNat_eq_some_iff, exists_finOfNat_eq_some_iff, Kind.exists_ofCode_iff, exists_boolOfCode_eq_some_iff,
    Policy.exists_ofCode_iff, Nat.lt_succ_iff, Nat.lt_succ_iff]
  tauto

/-! ### Station configurations -/

theorem stationConfigOctets_fields (c : StationConfig) :
    (stationConfigOctets c).length = 12 ∧ octetAt (stationConfigOctets c) 0 = c.mode.code ∧
    slice (stationConfigOctets c) 1 6 = macOctets c.address ∧ octetAt (stationConfigOctets c) 7 = c.embedded ∧
    octetAt (stationConfigOctets c) 8 = BitVec.ofNat 8 c.profile.val ∧ octetAt (stationConfigOctets c) 9 = boolCode c.member ∧
    octetAt (stationConfigOctets c) 10 = boolCode c.quarantineOnBreach ∧
    octetAt (stationConfigOctets c) 11 = boolCode c.enters := by
  unfold stationConfigOctets
  refine ⟨?_, ?_, ?_, ?_, ?_, ?_, ?_, ?_⟩ <;> simp [octetAt_cons_succ]

theorem readStationConfig_eq_some_iff (o : List Octet) (c : StationConfig) : readStationConfig o = some c ↔
    IdMode.ofCode (octetAt o 0) = some c.mode ∧ macAt o 1 = c.address ∧
    c.embedded = (if c.mode = .embedded then octetAt o 7 else 0) ∧ finOfNat 4 (octetAt o 8).toNat = some c.profile ∧
    boolOfCode (octetAt o 9) = some c.member ∧ boolOfCode (octetAt o 10) = some c.quarantineOnBreach ∧
    boolOfCode (octetAt o 11) = some c.enters := by
  have number : ∀ mode : IdMode, (match mode with
      | .embedded => octetAt o 7
      | .address => 0) = if mode = .embedded then octetAt o 7 else 0 := by intro mode; cases mode <;> rfl
  simp only [readStationConfig, Option.bind_eq_bind, Option.bind_eq_some_iff, Option.pure_def, Option.some.injEq]
  constructor
  · rintro ⟨mode, code, _, profile, _, member, _, breach, _, enters, rfl⟩
    exact ⟨code, rfl, number mode, profile, member, breach, enters⟩
  · obtain ⟨mode, _, _, _, _, _, _⟩ := c
    dsimp only
    rintro ⟨code, rfl, embedded, profile, member, breach, enters⟩
    refine ⟨_, code, _, profile, _, member, _, breach, _, enters, ?_⟩
    congr 1
    exact (number mode).trans embedded.symm

theorem readStationConfig_stationConfigOctets {c : StationConfig} (own : c.mode = .address → c.embedded = 0) :
    readStationConfig (stationConfigOctets c) = some c := by
  obtain ⟨-, mode, address, embedded, profile, member, breach, enters⟩ := stationConfigOctets_fields c
  rw [readStationConfig_eq_some_iff, mode, embedded, profile, member, breach, enters]
  refine ⟨(IdMode.ofCode_eq_some_iff _ _).mpr rfl, macAt_of_slice address, ?_, ?_, (boolOfCode_eq_some_iff _ _).mpr rfl,
    (boolOfCode_eq_some_iff _ _).mpr rfl, (boolOfCode_eq_some_iff _ _).mpr rfl⟩
  · cases mode_ : c.mode
    · exact own mode_
    · rfl
  · rw [toNat_ofNat_fin (by decide), finOfNat_val]

/-! ### Profiles -/

theorem mapM_eq_some_iff {α β : Type} (f : α → Option β) (l : List α) (m : List β) :
    l.mapM f = some m ↔ l.map f = m.map some := by
  induction l generalizing m with
  | nil => cases m <;> simp
  | cons x l ih =>
    simp only [List.mapM_cons, Option.bind_eq_bind, Option.bind_eq_some_iff, Option.pure_def, Option.some.injEq, ih, List.map_cons]
    cases m with
    | nil => simp
    | cons y m =>
      simp only [List.map_cons, List.cons.injEq]
      constructor
      · rintro ⟨_, hx, _, hl, rfl, rfl⟩
        exact ⟨hx, hl⟩
      · exact fun h => ⟨y, h.1, m, h.2, rfl, rfl⟩

theorem readMap_eq_some_iff (o : List Octet) (m : List MapEntry) : readMap o = some m ↔
    m.length ≤ 16 ∧ (octetAt o 35).toNat = m.length ∧ ∀ (k : Nat) (e : MapEntry), m[k]? = some e → readMapEntry o (36 + 3 * k) = some e := by
  have entries (n : Nat) : (List.range n).mapM (fun k => readMapEntry o (36 + 3 * k)) = some m ↔
      n = m.length ∧ ∀ (k : Nat) (e : MapEntry), m[k]? = some e → readMapEntry o (36 + 3 * k) = some e := by
    rw [mapM_eq_some_iff]
    constructor
    · intro same
      have length : n = m.length := by simpa using congrArg List.length same
      refine ⟨length, fun k e at_ => ?_⟩
      have bound : k < n := length ▸ (List.getElem?_eq_some_iff.mp at_).1
      have := congrArg (·[k]?) same
      simpa [at_, bound] using this
    · rintro ⟨rfl, read⟩
      refine List.ext_getElem (by simp) fun k bound _ => ?_
      rw [List.length_map, List.length_range] at bound
      simpa using read k m[k] (List.getElem?_eq_getElem bound)
  unfold readMap
  dsimp only
  split
  · rw [entries]
    exact ⟨fun h => ⟨h.1 ▸ ‹_›, h⟩, fun h => h.2⟩
  · next long => exact iff_of_false (Option.some_ne_none m).symm fun h => long (h.2.1 ▸ h.1)

theorem readMapEntry_eq_some_iff (o : List Octet) (i : Nat) (e : MapEntry) : readMapEntry o i = some e ↔
    octetAt o i = e.code ∧ octetAt o (i + 1) = e.cls.code ∧ octetAt o (i + 2) = e.role.code := by
  simp only [readMapEntry, Option.bind_eq_bind, Option.bind_eq_some_iff, Option.pure_def, Option.some.injEq,
    FrameClass.ofCode_eq_some_iff, Role.ofCode_eq_some_iff]
  constructor
  · rintro ⟨_, cls, _, role, rfl⟩
    exact ⟨rfl, cls, role⟩
  · obtain ⟨_, _, _⟩ := e
    dsimp only
    rintro ⟨rfl, cls, role⟩
    exact ⟨_, cls, _, role, rfl⟩

theorem readProfileRecord_eq_some_iff (o : List Octet) (p : Profile) : readProfileRecord o = some p ↔
    boolOfCode (octetAt o 0) = some p.inUse ∧ word16At o 1 = p.frameType ∧
    (∃ b, boolOfCode (octetAt o 3) = some b ∧ p.discriminator = if b then some ⟨word16At o 4, octetAt o 6⟩ else none) ∧
    (∃ b, ByteOrder.ofCode (octetAt o 7) = some b ∧ p.byteOrder = some b) ∧ word16At o 8 = p.minLength ∧
    word16At o 10 = p.maxLength ∧
    (∃ b, boolOfCode (octetAt o 12) = some b ∧ p.stationField = if b then some (word16At o 13) else none) ∧
    (∃ b, boolOfCode (octetAt o 15) = some b ∧ p.tagField = if b then some ⟨word16At o 16, octetAt o 18⟩ else none) ∧
    word16At o 19 = p.functionOffset ∧ word16At o 21 = p.areaOffset ∧ word16At o 23 = p.indexOffset ∧
    word16At o 25 = p.countOffset ∧ word16At o 27 = p.firstValueOffset ∧ octetAt o 29 = p.valueWidth ∧
    word16At o 30 = p.statusOffset ∧ octetAt o 32 = p.successStatus ∧ octetAt o 33 = p.replyTimeout ∧
    boolOfCode (octetAt o 34) = some p.rewritePermitted ∧ readMap o = some p.functionMap := by
  simp only [readProfileRecord, Option.bind_eq_bind, Option.bind_eq_some_iff, Option.pure_def, Option.some.injEq]
  constructor
  · rintro ⟨_, inUse, d, disc, b, order, x, station, t, tag, _, rewrite, _, map, rfl⟩
    exact ⟨inUse, rfl, ⟨d, disc, rfl⟩, ⟨b, order, rfl⟩, rfl, rfl, ⟨x, station, rfl⟩, ⟨t, tag, rfl⟩, rfl, rfl, rfl, rfl, rfl, rfl,
      rfl, rfl, rfl, rewrite, map⟩
  · obtain ⟨_, _, _, _, _, _, _, _, _, _, _, _, _, _, _, _, _, _, _⟩ := p
    dsimp only
    rintro ⟨inUse, rfl, ⟨d, disc, rfl⟩, ⟨b, order, rfl⟩, rfl, rfl, ⟨x, station, rfl⟩, ⟨t, tag, rfl⟩, rfl, rfl, rfl, rfl, rfl, rfl,
      rfl, rfl, rfl, rewrite, map⟩
    exact ⟨_, inUse, d, disc, b, order, x, station, t, tag, _, rewrite, _, map, rfl⟩

/-- The discriminator octets of a profile record. -/
def discriminatorOctets : Option Discriminator → List Octet
  | some d => [1] ++ word16Octets d.offset ++ [d.value]
  | none => [0, 0, 0, 0]

/-- The byte-order octet of a profile record; a profile never loaded has none. -/
def orderOctet : Option ByteOrder → Octet
  | some b => b.code
  | none => 0

/-- The station-field octets of a profile record. -/
def stationFieldOctets : Option Word16 → List Octet
  | some w => [1] ++ word16Octets w
  | none => [0, 0, 0]

/-- The tag-field octets of a profile record. -/
def tagFieldOctets : Option TagField → List Octet
  | some t => [1] ++ word16Octets t.offset ++ [t.width]
  | none => [0, 0, 0, 0]

@[simp] theorem discriminatorOctets_length (d : Option Discriminator) : (discriminatorOctets d).length = 4 := by
  cases d <;> simp [discriminatorOctets]

@[simp] theorem stationFieldOctets_length (w : Option Word16) : (stationFieldOctets w).length = 3 := by
  cases w <;> simp [stationFieldOctets]

@[simp] theorem tagFieldOctets_length (t : Option TagField) : (tagFieldOctets t).length = 4 := by
  cases t <;> simp [tagFieldOctets]

theorem flatMap_mapEntryOctets_length (m : List MapEntry) : (m.flatMap mapEntryOctets).length = 3 * m.length := by
  induction m with
  | nil => rfl
  | cons e m ih => simp [mapEntryOctets, ih]; omega

theorem mapOctets_length (m : List MapEntry) : (mapOctets m).length = 48 := by
  have given := flatMap_mapEntryOctets_length (m.take 16)
  have few : (m.take 16).length ≤ 16 := List.length_take_le 16 m
  rw [mapOctets, List.length_append, List.length_replicate]
  omega

/-- The first 19 octets of a profile record: marks, type, discriminator, byte order, limits, station and tag fields. -/
def profileHead (p : Profile) : List Octet :=
  [boolCode p.inUse] ++ word16Octets p.frameType ++ discriminatorOctets p.discriminator ++ [orderOctet p.byteOrder] ++
    word16Octets p.minLength ++ word16Octets p.maxLength ++ stationFieldOctets p.stationField ++ tagFieldOctets p.tagField

/-- The octets from the function offset to the entry count. -/
def profileOffsets (p : Profile) : List Octet :=
  word16Octets p.functionOffset ++ word16Octets p.areaOffset ++ word16Octets p.indexOffset ++ word16Octets p.countOffset ++
    word16Octets p.firstValueOffset ++ [p.valueWidth] ++ word16Octets p.statusOffset ++
    [p.successStatus, p.replyTimeout, boolCode p.rewritePermitted, BitVec.ofNat 8 p.functionMap.length]

theorem profileOctets_eq (p : Profile) :
    profileOctets p = profileHead p ++ (profileOffsets p ++ mapOctets p.functionMap) := by
  simp only [profileHead, profileOffsets, List.append_assoc]
  simp only [profileOctets, List.append_assoc]
  rfl

@[simp] theorem profileHead_length (p : Profile) : (profileHead p).length = 19 := by simp [profileHead]

@[simp] theorem profileOffsets_length (p : Profile) : (profileOffsets p).length = 17 := by simp [profileOffsets]

theorem profileHead_fields (p : Profile) : octetAt (profileHead p) 0 = boolCode p.inUse ∧
    slice (profileHead p) 1 2 = word16Octets p.frameType ∧
    octetAt (profileHead p) 3 = octetAt (discriminatorOctets p.discriminator) 0 ∧
    slice (profileHead p) 4 2 = slice (discriminatorOctets p.discriminator) 1 2 ∧
    octetAt (profileHead p) 6 = octetAt (discriminatorOctets p.discriminator) 3 ∧
    octetAt (profileHead p) 7 = orderOctet p.byteOrder ∧ slice (profileHead p) 8 2 = word16Octets p.minLength ∧
    slice (profileHead p) 10 2 = word16Octets p.maxLength ∧
    octetAt (profileHead p) 12 = octetAt (stationFieldOctets p.stationField) 0 ∧
    slice (profileHead p) 13 2 = slice (stationFieldOctets p.stationField) 1 2 ∧
    octetAt (profileHead p) 15 = octetAt (tagFieldOctets p.tagField) 0 ∧
    slice (profileHead p) 16 2 = slice (tagFieldOctets p.tagField) 1 2 ∧
    octetAt (profileHead p) 18 = octetAt (tagFieldOctets p.tagField) 3 := by
  unfold profileHead
  refine ⟨?_, ?_, ?_, ?_, ?_, ?_, ?_, ?_, ?_, ?_, ?_, ?_, ?_⟩ <;> simp [octetAt_cons_succ]

theorem profileOffsets_fields (p : Profile) : slice (profileOffsets p) 0 2 = word16Octets p.functionOffset ∧
    slice (profileOffsets p) 2 2 = word16Octets p.areaOffset ∧ slice (profileOffsets p) 4 2 = word16Octets p.indexOffset ∧
    slice (profileOffsets p) 6 2 = word16Octets p.countOffset ∧ slice (profileOffsets p) 8 2 = word16Octets p.firstValueOffset ∧
    octetAt (profileOffsets p) 10 = p.valueWidth ∧ slice (profileOffsets p) 11 2 = word16Octets p.statusOffset ∧
    octetAt (profileOffsets p) 13 = p.successStatus ∧ octetAt (profileOffsets p) 14 = p.replyTimeout ∧
    octetAt (profileOffsets p) 15 = boolCode p.rewritePermitted ∧
    octetAt (profileOffsets p) 16 = BitVec.ofNat 8 p.functionMap.length := by
  unfold profileOffsets
  refine ⟨?_, ?_, ?_, ?_, ?_, ?_, ?_, ?_, ?_, ?_, ?_⟩ <;> simp [octetAt_cons_succ]

section
variable (p : Profile)

theorem profileOctets_length : (profileOctets p).length = 84 := by simp [profileOctets_eq, mapOctets_length]

theorem profileOctets_head {i : Nat} (h : i < 19) : octetAt (profileOctets p) i = octetAt (profileHead p) i := by
  rw [profileOctets_eq, octetAt_append_left (by simpa using h)]

theorem profileOctets_headSlice {i n : Nat} (h : i + n ≤ 19) : slice (profileOctets p) i n = slice (profileHead p) i n := by
  rw [profileOctets_eq, slice_append_left (by simpa using h)]

theorem profileOctets_offsets {i : Nat} (h : 19 ≤ i ∧ i < 36) :
    octetAt (profileOctets p) i = octetAt (profileOffsets p) (i - 19) := by
  rw [profileOctets_eq, octetAt_append_right (by simpa using h.1), profileHead_length,
    octetAt_append_left (by rw [profileOffsets_length]; omega)]

theorem profileOctets_offsetsSlice {i n : Nat} (h : 19 ≤ i ∧ i + n ≤ 36) :
    slice (profileOctets p) i n = slice (profileOffsets p) (i - 19) n := by
  rw [profileOctets_eq, slice_append_right (by simpa using h.1), profileHead_length,
    slice_append_left (by rw [profileOffsets_length]; omega)]

theorem profileOctets_map (i : Nat) : octetAt (profileOctets p) (36 + i) = octetAt (mapOctets p.functionMap) i := by
  rw [profileOctets_eq, octetAt_append_right (by simp; omega), octetAt_append_right (by simp; omega)]
  congr 1
  simp
  omega

/-- The fields of a profile record at their offsets (chapter 12, *Profile record*). -/
theorem profileOctets_fields :
    octetAt (profileOctets p) 0 = boolCode p.inUse ∧ slice (profileOctets p) 1 2 = word16Octets p.frameType ∧
    octetAt (profileOctets p) 3 = octetAt (discriminatorOctets p.discriminator) 0 ∧
    slice (profileOctets p) 4 2 = slice (discriminatorOctets p.discriminator) 1 2 ∧
    octetAt (profileOctets p) 6 = octetAt (discriminatorOctets p.discriminator) 3 ∧
    octetAt (profileOctets p) 7 = orderOctet p.byteOrder ∧ slice (profileOctets p) 8 2 = word16Octets p.minLength ∧
    slice (profileOctets p) 10 2 = word16Octets p.maxLength ∧
    octetAt (profileOctets p) 12 = octetAt (stationFieldOctets p.stationField) 0 ∧
    slice (profileOctets p) 13 2 = slice (stationFieldOctets p.stationField) 1 2 ∧
    octetAt (profileOctets p) 15 = octetAt (tagFieldOctets p.tagField) 0 ∧
    slice (profileOctets p) 16 2 = slice (tagFieldOctets p.tagField) 1 2 ∧
    octetAt (profileOctets p) 18 = octetAt (tagFieldOctets p.tagField) 3 ∧
    slice (profileOctets p) 19 2 = word16Octets p.functionOffset ∧ slice (profileOctets p) 21 2 = word16Octets p.areaOffset ∧
    slice (profileOctets p) 23 2 = word16Octets p.indexOffset ∧ slice (profileOctets p) 25 2 = word16Octets p.countOffset ∧
    slice (profileOctets p) 27 2 = word16Octets p.firstValueOffset ∧ octetAt (profileOctets p) 29 = p.valueWidth ∧
    slice (profileOctets p) 30 2 = word16Octets p.statusOffset ∧ octetAt (profileOctets p) 32 = p.successStatus ∧
    octetAt (profileOctets p) 33 = p.replyTimeout ∧ octetAt (profileOctets p) 34 = boolCode p.rewritePermitted ∧
    octetAt (profileOctets p) 35 = BitVec.ofNat 8 p.functionMap.length := by
  obtain ⟨inUse, type, disc, discOffset, discValue, order, minLength, maxLength, station, stationOffset, tag, tagOffset, tagWidth⟩ :=
    profileHead_fields p
  obtain ⟨function, area, index, count, value, width, status, success, timeout, rewrite, length⟩ := profileOffsets_fields p
  have head (i : Nat) (h : i < 19) := profileOctets_head p h
  have headSlice (i : Nat) (h : i + 2 ≤ 19) := profileOctets_headSlice p h
  have offset (i : Nat) (h : 19 ≤ i ∧ i < 36) := profileOctets_offsets p h
  have offsetSlice (i : Nat) (h : 19 ≤ i ∧ i + 2 ≤ 36) := profileOctets_offsetsSlice p h
  rw [head 0 (by decide), headSlice 1 (by decide), head 3 (by decide), headSlice 4 (by decide), head 6 (by decide),
    head 7 (by decide), headSlice 8 (by decide), headSlice 10 (by decide), head 12 (by decide), headSlice 13 (by decide),
    head 15 (by decide), headSlice 16 (by decide), head 18 (by decide), offsetSlice 19 (by decide), offsetSlice 21 (by decide),
    offsetSlice 23 (by decide), offsetSlice 25 (by decide), offsetSlice 27 (by decide), offset 29 (by decide),
    offsetSlice 30 (by decide), offset 32 (by decide), offset 33 (by decide), offset 34 (by decide), offset 35 (by decide)]
  exact ⟨inUse, type, disc, discOffset, discValue, order, minLength, maxLength, station, stationOffset, tag, tagOffset, tagWidth,
    function, area, index, count, value, width, status, success, timeout, rewrite, length⟩

end

/-- Each map entry stands in its three octets. -/
theorem octetAt_flatMap_mapEntryOctets {m : List MapEntry} {k : Nat} {e : MapEntry} (at_ : m[k]? = some e) {j : Nat} (j3 : j < 3) :
    octetAt (m.flatMap mapEntryOctets) (3 * k + j) = octetAt (mapEntryOctets e) j := by
  induction m generalizing k with
  | nil => cases at_
  | cons x m ih =>
    rw [List.flatMap_cons]
    cases k with
    | zero =>
      cases at_
      rw [Nat.mul_zero, Nat.zero_add]
      exact octetAt_append_left j3
    | succ k =>
      rw [octetAt_append_right (by simp [mapEntryOctets]; omega), show 3 * (k + 1) + j - (mapEntryOctets x).length = 3 * k + j by
        simp [mapEntryOctets]; omega]
      exact ih at_

theorem octetAt_mapOctets {m : List MapEntry} (few : m.length ≤ 16) {k : Nat} {e : MapEntry} (at_ : m[k]? = some e) {j : Nat}
    (j3 : j < 3) : octetAt (mapOctets m) (3 * k + j) = octetAt (mapEntryOctets e) j := by
  have bound : k < m.length := (List.getElem?_eq_some_iff.mp at_).1
  unfold mapOctets
  dsimp only
  rw [List.take_of_length_le few, octetAt_append_left (by rw [flatMap_mapEntryOctets_length]; omega),
    octetAt_flatMap_mapEntryOctets at_ j3]

theorem profileOctets_entry {p : Profile} (few : p.functionMap.length ≤ 16) {k : Nat} {e : MapEntry}
    (at_ : p.functionMap[k]? = some e) :
    octetAt (profileOctets p) (36 + 3 * k) = e.code ∧ octetAt (profileOctets p) (37 + 3 * k) = e.cls.code ∧
      octetAt (profileOctets p) (38 + 3 * k) = e.role.code := by
  rw [show 37 + 3 * k = 36 + (3 * k + 1) by omega, show 38 + 3 * k = 36 + (3 * k + 2) by omega, profileOctets_map,
    profileOctets_map, profileOctets_map]
  exact ⟨octetAt_mapOctets few at_ (j := 0) (by decide), octetAt_mapOctets few at_ (by decide), octetAt_mapOctets few at_ (by decide)⟩

theorem discriminatorOctets_fields (d : Option Discriminator) :
    (octetAt (discriminatorOctets d) 0, beNat (slice (discriminatorOctets d) 1 2), octetAt (discriminatorOctets d) 3) =
      match d with
      | some d => (1#8, d.offset.toNat, d.value)
      | none => (0#8, 0, 0#8) := by
  cases d with
  | none => rfl
  | some d => simp [discriminatorOctets, octetAt_cons_succ, beNat_word16Octets]

theorem stationFieldOctets_fields (w : Option Word16) :
    (octetAt (stationFieldOctets w) 0, beNat (slice (stationFieldOctets w) 1 2)) = match w with
      | some w => (1#8, w.toNat)
      | none => (0#8, 0) := by
  cases w with
  | none => rfl
  | some w => simp [stationFieldOctets, beNat_word16Octets]

theorem tagFieldOctets_fields (t : Option TagField) :
    (octetAt (tagFieldOctets t) 0, beNat (slice (tagFieldOctets t) 1 2), octetAt (tagFieldOctets t) 3) = match t with
      | some t => (1#8, t.offset.toNat, t.width)
      | none => (0#8, 0, 0#8) := by
  cases t with
  | none => rfl
  | some t => simp [tagFieldOctets, octetAt_cons_succ, beNat_word16Octets]

theorem readProfileRecord_profileOctets {p : Profile} (order : p.byteOrder ≠ none) (few : p.functionMap.length ≤ 16) :
    readProfileRecord (profileOctets p) = some p := by
  obtain ⟨inUse, type, disc, discOffset, discValue, orderAt, minLength, maxLength, station, stationOffset, tag, tagOffset, tagWidth,
    function, area, index, count, value, width, status, success, timeout, rewrite, length⟩ := profileOctets_fields p
  rw [readProfileRecord_eq_some_iff, inUse, disc, discValue, orderAt, station, tag, tagWidth, width, success, timeout, rewrite]
  have bool (b : Bool) : boolOfCode (boolCode b) = some b := (boolOfCode_eq_some_iff _ _).mpr rfl
  have order_ : ∃ b, ByteOrder.ofCode (orderOctet p.byteOrder) = some b ∧ p.byteOrder = some b := by
    obtain ⟨b, given⟩ := Option.ne_none_iff_exists'.mp order
    exact ⟨b, by rw [given]; exact (ByteOrder.ofCode_eq_some_iff _ b).mpr rfl, given⟩
  have map : readMap (profileOctets p) = some p.functionMap := by
    refine (readMap_eq_some_iff _ _).mpr ⟨few, ?_, fun k e at_ => ?_⟩
    · rw [length, BitVec.toNat_ofNat]; omega
    · obtain ⟨code, cls, role⟩ := profileOctets_entry few at_
      refine (readMapEntry_eq_some_iff _ _ _).mpr ⟨code, ?_, ?_⟩
      · rw [show 36 + 3 * k + 1 = 37 + 3 * k by omega]; exact cls
      · rw [show 36 + 3 * k + 2 = 38 + 3 * k by omega]; exact role
  have discField : ∃ b, boolOfCode (octetAt (discriminatorOctets p.discriminator) 0) = some b ∧ p.discriminator =
      if b then some ⟨word16At (profileOctets p) 4, octetAt (discriminatorOctets p.discriminator) 3⟩ else none := by
    rw [word16At, discOffset]
    cases given : p.discriminator with
    | none => exact ⟨false, rfl, rfl⟩
    | some d => exact ⟨true, rfl, by simp [discriminatorOctets, octetAt_cons_succ, beNat_word16Octets]⟩
  have stationField : ∃ b, boolOfCode (octetAt (stationFieldOctets p.stationField) 0) = some b ∧ p.stationField =
      if b then some (word16At (profileOctets p) 13) else none := by
    rw [word16At, stationOffset]
    cases given : p.stationField with
    | none => exact ⟨false, rfl, rfl⟩
    | some w => exact ⟨true, rfl, by simp [stationFieldOctets, beNat_word16Octets]⟩
  have tagField : ∃ b, boolOfCode (octetAt (tagFieldOctets p.tagField) 0) = some b ∧ p.tagField =
      if b then some ⟨word16At (profileOctets p) 16, octetAt (tagFieldOctets p.tagField) 3⟩ else none := by
    rw [word16At, tagOffset]
    cases given : p.tagField with
    | none => exact ⟨false, rfl, rfl⟩
    | some t => exact ⟨true, rfl, by simp [tagFieldOctets, octetAt_cons_succ, beNat_word16Octets]⟩
  exact ⟨bool _, word16At_of_slice type, discField, order_, word16At_of_slice minLength, word16At_of_slice maxLength, stationField,
    tagField, word16At_of_slice function, word16At_of_slice area, word16At_of_slice index, word16At_of_slice count,
    word16At_of_slice value, rfl, word16At_of_slice status, rfl, rfl, bool _, map⟩

/-! ### What any octets read as -/

theorem Role.exists_ofCode_iff (o : Octet) : (∃ r, Role.ofCode o = some r) ↔ o = 1 ∨ o = 2 := by
  simp only [← BitVec.toNat_inj, Role.ofCode]
  split <;> simp_all

theorem ByteOrder.exists_ofCode_iff (o : Octet) : (∃ b, ByteOrder.ofCode o = some b) ↔ o = 1 ∨ o = 2 := by
  simp only [← BitVec.toNat_inj, ByteOrder.ofCode]
  split <;> simp_all

theorem FrameClass.exists_ofCode_iff (o : Octet) : (∃ c, FrameClass.ofCode o = some c) ↔ 1 ≤ o.toNat ∧ o.toNat ≤ 6 := by
  unfold FrameClass.ofCode
  split <;> simp_all
  omega

theorem exists_boolOfCode_iff (o : Octet) : (∃ b, boolOfCode o = some b) ↔ o = 0 ∨ o = 1 := by
  simp only [← BitVec.toNat_inj, boolOfCode]
  split <;> simp_all

theorem exists_readMap_iff (o : List Octet) : (∃ m, readMap o = some m) ↔ (octetAt o 35).toNat ≤ 16 ∧
    ∀ i, i < (octetAt o 35).toNat → 1 ≤ (octetAt o (37 + 3 * i)).toNat ∧ (octetAt o (37 + 3 * i)).toNat ≤ 6 ∧
      (octetAt o (38 + 3 * i) = 1 ∨ octetAt o (38 + 3 * i) = 2) := by
  have place (k : Nat) : 36 + 3 * k + 1 = 37 + 3 * k ∧ 36 + 3 * k + 2 = 38 + 3 * k := by omega
  have coded (i : Nat) : (1 ≤ (octetAt o (37 + 3 * i)).toNat ∧ (octetAt o (37 + 3 * i)).toNat ≤ 6 ∧
      (octetAt o (38 + 3 * i) = 1 ∨ octetAt o (38 + 3 * i) = 2)) ↔ ∃ e, readMapEntry o (36 + 3 * i) = some e := by
    rw [← and_assoc, ← FrameClass.exists_ofCode_iff, ← Role.exists_ofCode_iff]
    simp only [readMapEntry_eq_some_iff, FrameClass.ofCode_eq_some_iff, Role.ofCode_eq_some_iff, place]
    constructor
    · rintro ⟨⟨c, cls⟩, r, role⟩
      exact ⟨⟨octetAt o (36 + 3 * i), c, r⟩, rfl, cls, role⟩
    · rintro ⟨e, -, cls, role⟩
      exact ⟨⟨_, cls⟩, _, role⟩
  simp only [coded, readMap_eq_some_iff]
  constructor
  · rintro ⟨m, few, length, read⟩
    refine ⟨length ▸ few, fun i bound => ?_⟩
    rw [length] at bound
    exact ⟨_, read i m[i] (List.getElem?_eq_getElem bound)⟩
  · rintro ⟨few, read⟩
    refine ⟨List.ofFn fun i : Fin (octetAt o 35).toNat => (read i i.isLt).choose, by simpa using few, by simp, fun k e at_ => ?_⟩
    obtain ⟨bound, same⟩ := List.getElem?_eq_some_iff.mp at_
    rw [← same, List.getElem_ofFn]
    exact (read k (by simpa using bound)).choose_spec

/-- The coded octets of a profile record hold listed codes (R7 check 3). -/
def ProfileCoded (o : List Octet) : Prop :=
  (octetAt o 0 = 0 ∨ octetAt o 0 = 1) ∧ (octetAt o 3 = 0 ∨ octetAt o 3 = 1) ∧ (octetAt o 7 = 1 ∨ octetAt o 7 = 2) ∧
    (octetAt o 12 = 0 ∨ octetAt o 12 = 1) ∧ (octetAt o 15 = 0 ∨ octetAt o 15 = 1) ∧ (octetAt o 34 = 0 ∨ octetAt o 34 = 1) ∧
    (octetAt o 35).toNat ≤ 16 ∧ ∀ i, i < (octetAt o 35).toNat →
      1 ≤ (octetAt o (37 + 3 * i)).toNat ∧ (octetAt o (37 + 3 * i)).toNat ≤ 6 ∧
      (octetAt o (38 + 3 * i) = 1 ∨ octetAt o (38 + 3 * i) = 2)

/-- A profile record is read exactly where its coded octets hold listed codes. -/
theorem exists_readProfileRecord_iff (o : List Octet) : (∃ p, readProfileRecord o = some p) ↔ ProfileCoded o := by
  rw [ProfileCoded, ← exists_boolOfCode_iff, ← exists_boolOfCode_iff, ← ByteOrder.exists_ofCode_iff, ← exists_boolOfCode_iff,
    ← exists_boolOfCode_iff, ← exists_boolOfCode_iff, ← exists_readMap_iff]
  simp only [readProfileRecord, Option.bind_eq_bind, Option.bind_eq_some_iff, Option.pure_def, Option.some.injEq]
  constructor
  · rintro ⟨_, u, inUse, d, disc, b, order, x, station, t, tag, r, rewrite, m, map, -⟩
    exact ⟨⟨u, inUse⟩, ⟨d, disc⟩, ⟨b, order⟩, ⟨x, station⟩, ⟨t, tag⟩, ⟨r, rewrite⟩, m, map⟩
  · rintro ⟨⟨u, inUse⟩, ⟨d, disc⟩, ⟨b, order⟩, ⟨x, station⟩, ⟨t, tag⟩, ⟨r, rewrite⟩, m, map⟩
    exact ⟨_, u, inUse, d, disc, b, order, x, station, t, tag, r, rewrite, m, map, rfl⟩

/-- A field that is absent where its presence octet is 0. -/
theorem presentField_eq {α : Type} {o : Octet} {x : Option α} {v : α}
    (field : ∃ b, boolOfCode o = some b ∧ x = if b then some v else none) : x = if o = 1 then some v else none := by
  obtain ⟨b, code, rfl⟩ := field
  rw [(boolOfCode_eq_some_iff o b).mp code]
  cases b <;> rfl

/-- What a profile record's octets carry, field by field. -/
theorem readProfileRecord_fields {o : List Octet} {p : Profile} (read : readProfileRecord o = some p) :
    boolCode p.inUse = octetAt o 0 ∧ p.frameType.toNat = beNat (slice o 1 2) ∧
    p.discriminator = (if octetAt o 3 = 1 then some ⟨BitVec.ofNat 16 (beNat (slice o 4 2)), octetAt o 6⟩ else none) ∧
    (∃ b, p.byteOrder = some b ∧ b.code = octetAt o 7) ∧ p.minLength.toNat = beNat (slice o 8 2) ∧
    p.maxLength.toNat = beNat (slice o 10 2) ∧
    p.stationField = (if octetAt o 12 = 1 then some (BitVec.ofNat 16 (beNat (slice o 13 2))) else none) ∧
    p.tagField = (if octetAt o 15 = 1 then some ⟨BitVec.ofNat 16 (beNat (slice o 16 2)), octetAt o 18⟩ else none) ∧
    p.functionOffset.toNat = beNat (slice o 19 2) ∧ p.areaOffset.toNat = beNat (slice o 21 2) ∧
    p.indexOffset.toNat = beNat (slice o 23 2) ∧ p.countOffset.toNat = beNat (slice o 25 2) ∧
    p.firstValueOffset.toNat = beNat (slice o 27 2) ∧ p.valueWidth = octetAt o 29 ∧ p.statusOffset.toNat = beNat (slice o 30 2) ∧
    p.successStatus = octetAt o 32 ∧ p.replyTimeout = octetAt o 33 ∧ boolCode p.rewritePermitted = octetAt o 34 ∧
    p.functionMap.length = (octetAt o 35).toNat ∧ ∀ (k : Nat) (e : MapEntry), p.functionMap[k]? = some e →
      e.code = octetAt o (36 + 3 * k) ∧ e.cls.code = octetAt o (37 + 3 * k) ∧ e.role.code = octetAt o (38 + 3 * k) := by
  obtain ⟨inUse, type, disc, ⟨b, order, byteOrder⟩, minLength, maxLength, station, tag, function, area, index, count, value, width,
    status, success, timeout, rewrite, map⟩ := (readProfileRecord_eq_some_iff o p).mp read
  obtain ⟨-, length, entries⟩ := (readMap_eq_some_iff _ _).mp map
  simp only [word16At_eq_iff] at type minLength maxLength function area index count value status
  refine ⟨((boolOfCode_eq_some_iff _ _).mp inUse).symm, type, presentField_eq disc,
    ⟨b, byteOrder, ((ByteOrder.ofCode_eq_some_iff _ _).mp order).symm⟩, minLength, maxLength, presentField_eq station,
    presentField_eq tag, function, area, index, count, value, width.symm, status, success.symm, timeout.symm,
    ((boolOfCode_eq_some_iff _ _).mp rewrite).symm, length.symm, fun k e at_ => ?_⟩
  obtain ⟨code, cls, role⟩ := (readMapEntry_eq_some_iff _ _ _).mp (entries k e at_)
  rw [show 36 + 3 * k + 1 = 37 + 3 * k by omega] at cls
  rw [show 36 + 3 * k + 2 = 38 + 3 * k by omega] at role
  exact ⟨code.symm, cls.symm, role.symm⟩

/-- What a profile record holds, field by field. -/
theorem profileOctets_carry {p : Profile} (few : p.functionMap.length ≤ 16) :
    octetAt (profileOctets p) 0 = boolCode p.inUse ∧ beNat (slice (profileOctets p) 1 2) = p.frameType.toNat ∧
    (octetAt (profileOctets p) 3, beNat (slice (profileOctets p) 4 2), octetAt (profileOctets p) 6) =
      (match p.discriminator with
      | some d => (1#8, d.offset.toNat, d.value)
      | none => (0#8, 0, 0#8)) ∧
    (∀ b, p.byteOrder = some b → octetAt (profileOctets p) 7 = b.code) ∧
    beNat (slice (profileOctets p) 8 2) = p.minLength.toNat ∧ beNat (slice (profileOctets p) 10 2) = p.maxLength.toNat ∧
    (octetAt (profileOctets p) 12, beNat (slice (profileOctets p) 13 2)) = (match p.stationField with
      | some w => (1#8, w.toNat)
      | none => (0#8, 0)) ∧
    (octetAt (profileOctets p) 15, beNat (slice (profileOctets p) 16 2), octetAt (profileOctets p) 18) =
      (match p.tagField with
      | some t => (1#8, t.offset.toNat, t.width)
      | none => (0#8, 0, 0#8)) ∧
    beNat (slice (profileOctets p) 19 2) = p.functionOffset.toNat ∧ beNat (slice (profileOctets p) 21 2) = p.areaOffset.toNat ∧
    beNat (slice (profileOctets p) 23 2) = p.indexOffset.toNat ∧ beNat (slice (profileOctets p) 25 2) = p.countOffset.toNat ∧
    beNat (slice (profileOctets p) 27 2) = p.firstValueOffset.toNat ∧ octetAt (profileOctets p) 29 = p.valueWidth ∧
    beNat (slice (profileOctets p) 30 2) = p.statusOffset.toNat ∧ octetAt (profileOctets p) 32 = p.successStatus ∧
    octetAt (profileOctets p) 33 = p.replyTimeout ∧ octetAt (profileOctets p) 34 = boolCode p.rewritePermitted ∧
    (octetAt (profileOctets p) 35).toNat = p.functionMap.length := by
  obtain ⟨inUse, type, disc, discOffset, discValue, order, minLength, maxLength, station, stationOffset, tag, tagOffset, tagWidth,
    function, area, index, count, value, width, status, success, timeout, rewrite, length⟩ := profileOctets_fields p
  rw [type, disc, discOffset, discValue, order, minLength, maxLength, station, stationOffset, tag, tagOffset, tagWidth, function, area,
    index, count, value, status, length]
  refine ⟨inUse, beNat_word16Octets _, discriminatorOctets_fields _, fun b given => by rw [given]; rfl, beNat_word16Octets _,
    beNat_word16Octets _, stationFieldOctets_fields _, tagFieldOctets_fields _, beNat_word16Octets _, beNat_word16Octets _,
    beNat_word16Octets _, beNat_word16Octets _, beNat_word16Octets _, width, beNat_word16Octets _, success, timeout, rewrite, ?_⟩
  rw [BitVec.toNat_ofNat]
  omega

/-- What a parameter record holds, field by field. -/
theorem paramOctets_carry (r : ParamRecord) :
    (octetAt (paramOctets r) 0).toNat = r.key.station.val ∧ (octetAt (paramOctets r) 1).toNat = r.key.area.val ∧
    beNat (slice (paramOctets r) 2 2) = r.key.index.toNat ∧ octetAt (paramOctets r) 4 = r.kind.code ∧
    (beNat (slice (paramOctets r) 5 4) : Int) = r.runLo % 2 ^ 32 ∧ (beNat (slice (paramOctets r) 9 4) : Int) = r.runHi % 2 ^ 32 ∧
    (beNat (slice (paramOctets r) 13 4) : Int) = r.chgLo % 2 ^ 32 ∧
    (beNat (slice (paramOctets r) 17 4) : Int) = r.chgHi % 2 ^ 32 ∧ octetAt (paramOctets r) 21 = boolCode r.stepLimits ∧
    beNat (slice (paramOctets r) 22 4) = r.stepUp % 2 ^ 32 ∧ beNat (slice (paramOctets r) 26 4) = r.stepDown % 2 ^ 32 ∧
    beNat (slice (paramOctets r) 30 2) = r.quantum % 2 ^ 16 ∧ octetAt (paramOctets r) 32 = r.policy.code ∧
    (octetAt (paramOctets r) 33).toNat = r.criticality % 256 := by
  obtain ⟨-, station, area, index, kind, runLo, runHi, chgLo, chgHi, steps, stepUp, stepDown, quantum, policy, criticality⟩ :=
    paramOctets_fields r
  rw [station, area, index, runLo, runHi, chgLo, chgHi, stepUp, stepDown, quantum, criticality]
  exact ⟨toNat_ofNat_fin (by decide) _, toNat_ofNat_fin (by decide) _, beNat_word16Octets _, kind, beNat_beOctetsInt 4 _,
    beNat_beOctetsInt 4 _, beNat_beOctetsInt 4 _, beNat_beOctetsInt 4 _, steps, beNat_beOctets 4 _, beNat_beOctets 4 _,
    beNat_beOctets 2 _, policy, BitVec.toNat_ofNat _ _⟩

/-- What a parameter record's octets carry, field by field. -/
theorem readParamRecord_fields {o : List Octet} {r : ParamRecord} (read : readParamRecord o = some r) :
    r.key.station.val = (octetAt o 0).toNat ∧ r.key.area.val = (octetAt o 1).toNat ∧ r.key.index.toNat = beNat (slice o 2 2) ∧
    r.kind.code = octetAt o 4 ∧ r.runLo = kindReads r.kind 4 (beNat (slice o 5 4)) ∧
    r.runHi = kindReads r.kind 4 (beNat (slice o 9 4)) ∧ r.chgLo = kindReads r.kind 4 (beNat (slice o 13 4)) ∧
    r.chgHi = kindReads r.kind 4 (beNat (slice o 17 4)) ∧ boolCode r.stepLimits = octetAt o 21 ∧
    r.stepUp = beNat (slice o 22 4) ∧ r.stepDown = beNat (slice o 26 4) ∧ r.quantum = beNat (slice o 30 2) ∧
    r.policy.code = octetAt o 32 ∧ r.criticality = (octetAt o 33).toNat := by
  obtain ⟨station, area, index, kind, runLo, runHi, chgLo, chgHi, steps, stepUp, stepDown, quantum, policy, criticality, -⟩ :=
    (readParamRecord_eq_some_iff o r).mp read
  rw [boundAt, Kind.interpret_bound] at runLo runHi chgLo chgHi
  exact ⟨finOfNat_some _ _ _ station, finOfNat_some _ _ _ area, (word16At_eq_iff _ _ _).mp index,
    ((Kind.ofCode_eq_some_iff _ _).mp kind).symm, runLo.symm, runHi.symm, chgLo.symm, chgHi.symm,
    ((boolOfCode_eq_some_iff _ _).mp steps).symm, stepUp.symm, stepDown.symm, quantum.symm,
    ((Policy.ofCode_eq_some_iff _ _).mp policy).symm, criticality.symm⟩

/-- Settles O10: each record's fields at their offsets, and each reader by the fields it reads. -/
theorem recordsRoundTrip : Obligations.RecordsRoundTrip := by
  unfold Obligations.RecordsRoundTrip
  refine ⟨fun r sound small => ⟨(paramOctets_fields r).1, readParamRecord_paramOctets sound small⟩,
    fun c own => ⟨(stationConfigOctets_fields c).1, readStationConfig_stationConfigOctets own⟩,
    fun p order few => ⟨profileOctets_length p, readProfileRecord_profileOctets order few⟩, paramOctets_carry, fun c => ?_,
    fun p few => ?_, exists_readParamRecord_iff, fun _ _ => readParamRecord_fields, fun o c read => ?_,
    fun _ _ => readProfileRecord_fields, fun _ => rfl, ⟨rfl, rfl, rfl, rfl⟩, rfl, rfl, rfl, rfl, rfl, rfl, rfl, rfl, rfl, rfl, rfl,
    fun t => ?_, rfl⟩
  · obtain ⟨-, mode, address, embedded, profile, member, breach, enters⟩ := stationConfigOctets_fields c
    refine ⟨mode, ?_, embedded, ?_, member, breach, enters⟩
    · dsimp only
      rw [address, beNat_macOctets]
    · rw [profile, toNat_ofNat_fin (by decide)]
  · obtain ⟨inUse, type, disc, order, minLength, maxLength, station, tag, function, area, index, count, value, width, status, success,
      timeout, rewrite, length⟩ := profileOctets_carry few
    exact ⟨inUse, type, disc, order, minLength, maxLength, station, tag, function, area, index, count, value, width, status, success,
      timeout, rewrite, length, fun k e at_ => profileOctets_entry few at_⟩
  · obtain ⟨mode, address, embedded, profile, member, breach, enters⟩ := (readStationConfig_eq_some_iff o c).mp read
    exact ⟨((IdMode.ofCode_eq_some_iff _ _).mp mode).symm, (macAt_eq_iff _ _ _).mp address, embedded, finOfNat_some _ _ _ profile,
      ((boolOfCode_eq_some_iff _ _).mp member).symm, ((boolOfCode_eq_some_iff _ _).mp breach).symm,
      ((boolOfCode_eq_some_iff _ _).mp enters).symm⟩
  · obtain ⟨a, b, c, d, e⟩ := t
    revert a b c d e
    decide

end Sys2Proof.Machine

/-! PROOFS. The requests on profiles, stations, station states and parameter records, and station identification. -/

namespace Sys2Proof.Machine

/-! ### LOAD PROFILE -/

theorem profileBusy_iff (s : State) (n : Fin 4) : profileBusy s n = true ↔
    ∃ t ∈ s.txns, (s.station t.ref.station).inUse = true ∧ (s.station t.ref.station).config.profile = n := by
  simp only [profileBusy, List.any_eq_true, Bool.and_eq_true, decide_eq_true_eq]

/-- Another profile in use has the record's frame type and discriminator (R7 check 5). -/
theorem any_profilesClash_iff (s : State) (n : Fin 4) {p : Profile} (used : p.inUse = true) :
    ((List.finRange 4).any fun i => decide (i ≠ n) && profilesClash p s.settings.profiles[i]) = true ↔
      ∃ i : Fin 4, i ≠ n ∧ s.settings.profiles[i].inUse = true ∧ s.settings.profiles[i].frameType = p.frameType ∧
        s.settings.profiles[i].discriminator = p.discriminator := by
  simp only [List.any_eq_true, List.mem_finRange, true_and, Bool.and_eq_true, decide_eq_true_eq, profilesClash_iff, used,
    eq_comm (a := p.frameType), eq_comm (a := p.discriminator)]

section
variable {n : Fin 4} {q : Request} {s : State} (names : octetAt (argsOf q) 0 = BitVec.ofNat 8 n.val)
include names

theorem ownLoadProfile_busy (busy : profileBusy s n = true) : ownLoadProfile q s = refuse .busy s := by
  simp only [ownLoadProfile, finOfNat_of_octet (by decide) names, if_pos busy]

theorem ownLoadProfile_unread (free : ¬ profileBusy s n = true) (unread : readProfileRecord ((argsOf q).drop 1) = none) :
    ownLoadProfile q s = refuse .badValue s := by
  simp only [ownLoadProfile, finOfNat_of_octet (by decide) names, if_neg free, unread]

theorem ownLoadProfile_bad {p : Profile} (free : ¬ profileBusy s n = true)
    (read : readProfileRecord ((argsOf q).drop 1) = some p) (bad : p.inUse = true ∧ profileGood p = false) :
    ownLoadProfile q s = refuse .badValue s := by
  simp only [ownLoadProfile, finOfNat_of_octet (by decide) names, if_neg free, read, if_pos bad]

theorem ownLoadProfile_good {p : Profile} (free : ¬ profileBusy s n = true)
    (read : readProfileRecord ((argsOf q).drop 1) = some p) (good : ¬ (p.inUse = true ∧ profileGood p = false)) :
    ownLoadProfile q s =
      if (List.finRange 4).any fun i => decide (i ≠ n) && profilesClash p s.settings.profiles[i] then refuse .duplicate s
      else accept [] { s with settings := { s.settings with profiles := s.settings.profiles.set n p } } := by
  simp only [ownLoadProfile, finOfNat_of_octet (by decide) names, if_neg free, read, if_neg good]

end

/-- Settles O11: the branches of the owning rule, in their order. -/
theorem loadProfileReplaces : Obligations.LoadProfileReplaces := by
  unfold Obligations.LoadProfileReplaces
  intro n q s served names
  refine ⟨fun busy => ?_, fun free uncoded => ?_, fun free coded => ?_⟩
  · exact exec_refused .loadProfile q s _ served (ownLoadProfile_busy names ((profileBusy_iff _ _).mpr busy))
  · refine exec_refused .loadProfile q s _ served (ownLoadProfile_unread names (mt (profileBusy_iff _ _).mp free) ?_)
    exact Option.eq_none_iff_forall_ne_some.mpr fun p read =>
      uncoded ((exists_readProfileRecord_iff _).mp ⟨p, read⟩)
  · obtain ⟨p, read⟩ := (exists_readProfileRecord_iff ((argsOf q).drop 1)).mpr coded
    have idle : ¬ profileBusy ({ s with now := q.time }) n = true := mt (profileBusy_iff _ _).mp free
    have sound : ProfileSound p ↔ profileGood p = true :=
      (profileSound_iff p).trans (and_iff_right (readProfileRecord_byteOrder read))
    refine ⟨p, read, fun used bad => ?_, fun used good clash => ?_, fun fits => ?_⟩
    · rw [sound, Bool.not_eq_true] at bad
      exact exec_refused .loadProfile q s _ served (ownLoadProfile_bad names idle read ⟨used, bad⟩)
    · have own := ownLoadProfile_good (s := { s with now := q.time }) names idle read fun h => by
        rw [sound.mp good] at h
        cases h.2
      rw [if_pos ((any_profilesClash_iff _ n used).mpr clash)] at own
      exact exec_refused .loadProfile q s _ served own
    · have own := ownLoadProfile_good (s := { s with now := q.time }) names idle read fun h => by
        rw [sound.mp (fits h.1).1] at h
        cases h.2
      have differs : ¬ ((List.finRange 4).any fun i => decide (i ≠ n) && profilesClash p s.settings.profiles[i]) = true := by
        cases used : p.inUse with
        | false => simp [profilesClash, used]
        | true => exact mt (any_profilesClash_iff s n used).mp (fits used).2
      rw [if_neg differs] at own
      exact exec_accepted .loadProfile q s _ _ served own

/-! ### Station states -/

section
variable {n : Fin 32} {q : Request} {s : State} (names : octetAt (argsOf q) 0 = BitVec.ofNat 8 n.val)
include names

theorem ownGrantService_eq : ownGrantService q s =
    if s.keyPosition ≠ .service then refuse .keyPosition s
    else if (s.station n).inUse = false ∨ (s.station n).state = .quarantined then refuse .wrongState s
    else accept [] (s.setStationState n .service) := by
  simp only [ownGrantService, entry_named names]

theorem ownEndService_eq : ownEndService q s =
    if (s.station n).inUse = false ∨ (s.station n).state ≠ .service then refuse .wrongState s
    else accept [] (s.setStationState n .normal) := by
  simp only [ownEndService, entry_named names]

theorem ownQuarantineStation_eq : ownQuarantineStation q s =
    if (s.station n).inUse = false then refuse .wrongState s
    else if (s.station n).state = .quarantined then accept [] s
    else accept [] ((s.setStationState n .quarantined).raise (quarantinedEvent n .request)) := by
  simp only [ownQuarantineStation, entry_named names]

theorem ownReleaseStation_eq : ownReleaseStation q s =
    if s.keyPosition ≠ .service then refuse .keyPosition s
    else if (s.station n).inUse = false ∨ (s.station n).state ≠ .quarantined then refuse .wrongState s
    else accept [] (s.setStationState n .normal) := by
  simp only [ownReleaseStation, entry_named names]

end

/-- Settles O13: each clause is one branch of an owning rule. -/
theorem stationStateRequestsAct : Obligations.StationStateRequestsAct := by
  unfold Obligations.StationStateRequestsAct
  intro n q s args
  have names : octetAt (argsOf q) 0 = BitVec.ofNat 8 n.val := by rw [args]; rfl
  have grant := ownGrantService_eq (s := { s with now := q.time }) names
  have end_ := ownEndService_eq (s := { s with now := q.time }) names
  have quarantine := ownQuarantineStation_eq (s := { s with now := q.time }) names
  have release := ownReleaseStation_eq (s := { s with now := q.time }) names
  refine ⟨fun served key => ?_, fun served key unfit => ?_, fun served key used free => ?_, fun served unfit => ?_,
    fun served used service => ?_, fun served unused => ?_, fun served used other => ?_, fun served used same => ?_,
    fun served key => ?_, fun served key unfit => ?_, fun served key used quarantined => ?_⟩
  · exact exec_refused .grantService q s _ served (grant.trans (if_pos key))
  · exact exec_refused .grantService q s _ served (grant.trans ((if_neg (not_not.mpr key)).trans (if_pos unfit)))
  · exact exec_accepted .grantService q s _ _ served (grant.trans ((if_neg (not_not.mpr key)).trans
      (if_neg (not_or.mpr ⟨ne_false_of_eq_true used, free⟩))))
  · exact exec_refused .endService q s _ served (end_.trans (if_pos unfit))
  · exact exec_accepted .endService q s _ _ served (end_.trans (if_neg (not_or.mpr ⟨ne_false_of_eq_true used, not_not.mpr service⟩)))
  · exact exec_refused .quarantineStation q s _ served (quarantine.trans (if_pos unused))
  · exact exec_accepted .quarantineStation q s _ _ served
      (quarantine.trans ((if_neg (ne_false_of_eq_true used)).trans (if_neg other)))
  · exact exec_accepted .quarantineStation q s _ _ served
      (quarantine.trans ((if_neg (ne_false_of_eq_true used)).trans (if_pos same)))
  · exact exec_refused .releaseStation q s _ served (release.trans (if_pos key))
  · exact exec_refused .releaseStation q s _ served (release.trans ((if_neg (not_not.mpr key)).trans (if_pos unfit)))
  · exact exec_accepted .releaseStation q s _ _ served (release.trans ((if_neg (not_not.mpr key)).trans
      (if_neg (not_or.mpr ⟨ne_false_of_eq_true used, not_not.mpr quarantined⟩))))

/-! ### Targets out of range -/

/-- Settles O17: an unnamed target refuses at once; then the record's checks. -/
theorem badTargetsAndRecordsAreRefused : Obligations.BadTargetsAndRecordsAreRefused := by
  unfold Obligations.BadTargetsAndRecordsAreRefused
  intro k q s served
  refine ⟨fun kind above => ?_, fun kind above => ?_, fun kind above => ?_, fun kind i names => ?_⟩
  · have none_ : finOfNat 4 (octetAt (argsOf q) 0).toNat = none := finOfNat_eq_none above
    refine exec_refused k q s _ served ?_
    rcases kind with rfl | rfl <;> simp only [ownRule, ownLoadProfile, ownReadProfile, none_]
  · have none_ : finOfNat 32 (octetAt (argsOf q) 0).toNat = none := finOfNat_eq_none above
    refine exec_refused k q s _ served ?_
    rcases kind with rfl | rfl | rfl | rfl | rfl | rfl | rfl | rfl | rfl | rfl
    case inr.inr.inr.inl =>
      simp only [ownRule, ownLoadAreaPolicy, none_]
      split
      · contradiction
      · rfl
      · rfl
    all_goals
      simp only [ownRule, ownLoadStation, ownReadStation, ownClearStation, ownReadCounters, ownClearCounters, ownGrantService,
        ownEndService, ownQuarantineStation, ownReleaseStation, none_]
  · refine exec_refused k q s _ served ?_
    obtain ⟨load, clear, forget⟩ := ownSlotRule_above (s := { s with now := q.time }) above
    rcases kind with rfl | rfl | rfl
    · exact load
    · exact clear
    · exact forget
  · subst kind
    have slot := slot_named names
    have refused (c : ResultCode) (own : ownLoadParameter q { s with now := q.time } = refuse c { s with now := q.time }) :
        exec (.loadParameter q) s = .next (s.denied .loadParameter q c) := exec_refused .loadParameter q s c served own
    refine ⟨fun unread => ?_, fun r read unsound => ?_, fun r j r' read sound other holds same => ?_⟩
    · exact refused _ (by simp only [ownLoadParameter, slot, unread])
    · have inconsistent : recordConsistent r = false := by
        obtain ⟨quantum, criticality⟩ := readParamRecord_ranges read
        by_contra consistent
        rw [Bool.not_eq_false] at consistent
        exact unsound ((recordSound_iff r).mpr ⟨quantum, criticality, consistent⟩)
      exact refused _ (by simp only [ownLoadParameter, slot, read, if_pos inconsistent])
    · have consistent : ¬ recordConsistent r = false := by
        obtain ⟨-, -, consistent⟩ := (recordSound_iff r).mp sound
        rw [consistent]
        exact Bool.noConfusion
      have taken := (keyTaken_iff s.settings.stagedBank i r.key).mpr ⟨j, r', other, holds, same⟩
      exact refused _ (by simp only [ownLoadParameter, slot, read, if_neg consistent, if_pos taken])

/-! ### Station identification -/

/-- A search for a property that one entry at most has. -/
theorem find?_finRange_eq_some_iff {m : Nat} {p : Fin m → Bool} (unique : ∀ i j, p i = true → p j = true → i = j) (n : Fin m) :
    (List.finRange m).find? p = some n ↔ p n = true := by
  constructor
  · exact fun found => List.find?_some found
  · intro holds
    obtain ⟨j, found⟩ := Option.isSome_iff_exists.mp
      (List.find?_isSome.mpr ⟨n, List.mem_finRange n, holds⟩ : ((List.finRange m).find? p).isSome = true)
    rw [found, unique j n (List.find?_some found) holds]

section
variable {st : Settings} (distinct : stationsDistinct st) (prof : Fin 4) (a : Mac)
include distinct

theorem byAddress_eq_some_iff (n : Fin 32) : byAddress st prof a = some n ↔
    st.stations[n].inUse = true ∧ st.stations[n].config.profile = prof ∧ st.stations[n].config.mode = .address ∧
      st.stations[n].config.address = a := by
  rw [byAddress, find?_finRange_eq_some_iff]
  · simp [and_assoc]
  · intro i j hi hj
    simp only [Bool.and_eq_true, decide_eq_true_eq, and_assoc] at hi hj
    by_contra differ
    have embedded := (distinct i j differ hi.1 hj.1 (hi.2.2.2.trans hj.2.2.2.symm)).1
    rw [hi.2.2.1] at embedded
    cases embedded

theorem byNumber_eq_some_iff (number : Octet) (n : Fin 32) : byNumber st prof a number = some n ↔
    st.stations[n].inUse = true ∧ st.stations[n].config.profile = prof ∧ st.stations[n].config.mode = .embedded ∧
      st.stations[n].config.address = a ∧ st.stations[n].config.embedded = number := by
  rw [byNumber, find?_finRange_eq_some_iff]
  · simp [and_assoc]
  · intro i j hi hj
    simp only [Bool.and_eq_true, decide_eq_true_eq, and_assoc] at hi hj
    by_contra differ
    obtain ⟨usedI, -, -, addressI, numberI⟩ := hi
    obtain ⟨usedJ, -, -, addressJ, numberJ⟩ := hj
    exact (distinct i j differ usedI usedJ (addressI.trans addressJ.symm)).2.2 (numberI.trans numberJ.symm)

end

/-- Settles O14: under R25 at most one entry fits, by its own address or by gateway and number. -/
theorem identificationFindsTheOneStation : Obligations.IdentificationFindsTheOneStation := by
  unfold Obligations.IdentificationFindsTheOneStation
  intro st prof a pl distinct
  refine ⟨fun group => if_pos group, fun single n => ?_⟩
  have byOwn := byAddress_eq_some_iff distinct prof a
  have byGateway := byNumber_eq_some_iff distinct prof a
  rw [identify, single, if_neg Bool.false_ne_true]
  cases found : byAddress st prof a with
  | some m =>
    obtain ⟨used, profile, mode, address⟩ := (byOwn m).mp found
    rw [Option.some.injEq]
    constructor
    · rintro rfl
      exact .inl ⟨used, profile, mode, address⟩
    · rintro (own | ⟨usedN, -, modeN, addressN, -⟩)
      · exact Option.some.inj (found.symm.trans ((byOwn n).mpr own))
      · by_contra differ
        have embedded := (distinct m n differ used usedN (address.trans addressN.symm)).1
        rw [mode] at embedded
        cases embedded
  | none =>
    have noOwn : ¬ (st.stations[n].inUse = true ∧ st.stations[n].config.profile = prof ∧ st.stations[n].config.mode = .address ∧
        st.stations[n].config.address = a) := fun own => by
      rw [(byOwn n).mpr own] at found
      cases found
    rw [or_iff_right noOwn]
    cases field : st.profiles[prof].stationField with
    | none => simp
    | some w =>
      dsimp only
      have carried := hasField_octetAt_iff pl w
      split
      · next holds =>
        rw [byGateway]
        simp only [← carried, holds, Option.some.injEq, true_and, exists_eq_left', eq_comm (b := octetAt pl w.toNat)]
      · next short =>
        refine iff_of_false (Option.some_ne_none n).symm ?_
        rintro ⟨-, -, -, -, w', same, at_⟩
        cases same
        exact short ((carried _).mpr at_).1

end Sys2Proof.Machine

/-! PROOFS. The reading requests: the status result (R166), the image slots (R88) and the records they answer. -/

namespace Sys2Proof.Machine

/-- The fields of equal length of a run of fields. -/
theorem slice_flatMap {α : Type} {f : α → List Octet} {c : Nat} {l : List α} (length : ∀ x ∈ l, (f x).length = c) {k : Nat} {x : α}
    (at_ : l[k]? = some x) : slice (l.flatMap f) (c * k) c = f x := by
  induction l generalizing k with
  | nil => cases at_
  | cons y l ih =>
    have first := length y (List.mem_cons_self ..)
    rw [List.flatMap_cons]
    cases k with
    | zero =>
      rw [List.getElem?_cons_zero, Option.some.injEq] at at_
      rw [Nat.mul_zero, slice_append_left (by omega), slice_all first, at_]
    | succ k =>
      rw [slice_append_right (by rw [first, Nat.mul_succ]; omega), first, Nat.mul_succ, Nat.add_sub_cancel]
      exact ih (fun x member => length x (List.mem_cons_of_mem _ member)) at_

theorem length_flatMap_const {α : Type} {f : α → List Octet} {c : Nat} {l : List α} (length : ∀ x ∈ l, (f x).length = c) :
    (l.flatMap f).length = c * l.length := by
  rw [List.length_flatMap, List.map_congr_left length, List.map_const', List.sum_replicate, smul_eq_mul, Nat.mul_comm]

/-! ### The status result -/

/-- The first 27 octets of the status result, up to the link states. -/
def statusHead (s : State) : List Octet :=
  [s.keyPosition.code, boolCode (decide (s.key.taken = .fault)), s.lineIn.taken.code, s.window.code] ++
  beOctets 2 s.secondsRemaining ++
  [s.settings.active.code, boolCode s.settings.stagedReady, s.settings.lock.code, s.save.code, boolCode s.store.valid,
    boolCode s.alarm, boolCode s.trip, BitVec.ofNat 8 s.events.length] ++
  word16Octets s.lost ++
  [boolCode (groupPending s.events 0), boolCode (groupPending s.events 1), boolCode (groupPending s.events 2),
    boolCode (groupPending s.events 3), BitVec.ofNat 8 s.txns.length] ++
  word32Octets s.unmatched ++ [upCode s.portP.up, upCode s.portL.up]

/-- The nineteen counters of the status result. -/
def statusCounters (s : State) : List Word32 :=
  [s.portP.arrival.fcsErrors, s.portP.arrival.lengthErrors, s.portP.arrival.strayManagement, s.portP.arrival.foreignDrops,
    s.portL.arrival.fcsErrors, s.portL.arrival.lengthErrors, s.portL.arrival.strayManagement, s.portL.arrival.foreignDrops,
    s.malformed, s.portP.egress.expressFullDrops, s.portP.egress.ordinaryFullDrops, s.portP.egress.downDrops,
    s.portP.egress.lostPartFrames, s.portP.egress.framesSent, s.portL.egress.expressFullDrops,
    s.portL.egress.ordinaryFullDrops, s.portL.egress.downDrops, s.portL.egress.lostPartFrames, s.portL.egress.framesSent]

/-- The last six octets of the status result: the queue occupancies and the run counts. -/
def statusQueues (s : State) : List Octet :=
  [BitVec.ofNat 8 s.portP.express.length, BitVec.ofNat 8 s.portP.ordinary.length, BitVec.ofNat 8 s.portL.express.length,
    BitVec.ofNat 8 s.portL.ordinary.length, BitVec.ofNat 8 s.portP.runCount, BitVec.ofNat 8 s.portL.runCount]

theorem statusOctets_eq (s : State) :
    statusOctets s = statusHead s ++ ((statusCounters s).flatMap word32Octets ++ statusQueues s) := by
  simp only [statusOctets, statusHead, statusCounters, statusQueues, arrivalOctets, egressOctets, List.flatMap_cons,
    List.flatMap_nil, List.append_assoc, List.append_nil]

@[simp] theorem statusHead_length (s : State) : (statusHead s).length = 27 := by simp [statusHead]

@[simp] theorem statusCounters_length (s : State) : (statusCounters s).length = 19 := rfl

theorem statusHead_fields (s : State) :
    (∀ i, i < 4 → octetAt (statusHead s) i = octetAt [s.keyPosition.code, boolCode (decide (s.key.taken = .fault)),
      s.lineIn.taken.code, s.window.code] i) ∧
    slice (statusHead s) 4 2 = beOctets 2 s.secondsRemaining ∧
    (∀ i, i < 8 → octetAt (statusHead s) (6 + i) = octetAt [s.settings.active.code, boolCode s.settings.stagedReady,
      s.settings.lock.code, s.save.code, boolCode s.store.valid, boolCode s.alarm, boolCode s.trip,
      BitVec.ofNat 8 s.events.length] i) ∧
    slice (statusHead s) 14 2 = word16Octets s.lost ∧
    (∀ i, i < 5 → octetAt (statusHead s) (16 + i) = octetAt [boolCode (groupPending s.events 0), boolCode (groupPending s.events 1),
      boolCode (groupPending s.events 2), boolCode (groupPending s.events 3), BitVec.ofNat 8 s.txns.length] i) ∧
    slice (statusHead s) 21 4 = word32Octets s.unmatched ∧
    octetAt (statusHead s) 25 = upCode s.portP.up ∧ octetAt (statusHead s) 26 = upCode s.portL.up := by
  unfold statusHead
  refine ⟨fun i bound => ?_, ?_, fun i bound => ?_, ?_, fun i bound => ?_, ?_, ?_, ?_⟩
  case refine_1 | refine_3 | refine_5 => interval_cases i <;> simp [octetAt_cons_succ]
  all_goals simp [octetAt_cons_succ]

theorem statusOctets_head {s : State} {i : Nat} (h : i < 27) : octetAt (statusOctets s) i = octetAt (statusHead s) i := by
  rw [statusOctets_eq, octetAt_append_left (by simpa using h)]

theorem statusOctets_headSlice {s : State} {i n : Nat} (h : i + n ≤ 27) :
    slice (statusOctets s) i n = slice (statusHead s) i n := by
  rw [statusOctets_eq, slice_append_left (by simpa using h)]

theorem statusOctets_counter (s : State) {k : Nat} {w : Word32} (at_ : (statusCounters s)[k]? = some w) :
    beNat (slice (statusOctets s) (27 + 4 * k) 4) = w.toNat := by
  have bound : k < 19 := (List.getElem?_eq_some_iff.mp at_).1
  rw [statusOctets_eq, slice_append_right (by simp), statusHead_length, Nat.add_sub_cancel_left,
    slice_append_left (by simp; omega), slice_flatMap (fun w _ => word32Octets_length w) at_, beNat_word32Octets]

theorem statusOctets_queue (s : State) {i : Nat} : octetAt (statusOctets s) (103 + i) = octetAt (statusQueues s) i := by
  rw [statusOctets_eq, octetAt_append_right (by simp; omega), octetAt_append_right (by simp; omega)]
  congr 1
  simp
  omega

theorem boolCode_eq_one_iff (b : Bool) : boolCode b = 1 ↔ b = true := by cases b <;> decide

theorem groupPending_iff (events : List EventRecord) (g : Fin 4) : groupPending events g = true ↔
    ∃ e ∈ events, ∃ n : Fin 32, e.station = some n ∧ n.val / 8 = g.val := by
  rw [groupPending, List.any_eq_true]
  refine exists_congr fun e => and_congr_right fun _ => ?_
  cases station : e.station with
  | none => simp
  | some n =>
    constructor
    · exact fun inGroup => ⟨n, rfl, Fin.val_eq_of_eq (of_decide_eq_true inGroup)⟩
    · rintro ⟨m, same, inGroup⟩
      cases same
      exact decide_eq_true (Fin.ext inGroup)

/-- Settles O9: the head's fields, the counters one by one, and the queues' octets. -/
theorem statusResultLayout : Obligations.StatusResultLayout := by
  unfold Obligations.StatusResultLayout
  intro s
  obtain ⟨inputs, seconds, settings, lost, groups, unmatched, upP, upL⟩ := statusHead_fields s
  have head (i : Nat) (h : i < 27) : octetAt (statusOctets s) i = octetAt (statusHead s) i := statusOctets_head h
  have input (i : Nat) (h : i < 4) := (head i (by omega)).trans (inputs i h)
  have setting (i : Nat) (h : i < 8) := (head (6 + i) (by omega)).trans (settings i h)
  have group (i : Nat) (h : i < 5) := (head (16 + i) (by omega)).trans (groups i h)
  have queue (i : Nat) := statusOctets_queue s (i := i)
  have up (b : Bool) : upCode b = if b then 1#8 else 2#8 := rfl
  refine ⟨by simp [statusOctets_eq, statusQueues], input 0 (by decide), input 1 (by decide), input 2 (by decide),
    input 3 (by decide), rfl, rfl, rfl, fun _ _ => rfl, rfl, rfl, ?_, setting 0 (by decide), setting 1 (by decide),
    setting 2 (by decide), (setting 3 (by decide)).trans ?_, setting 4 (by decide), setting 5 (by decide), setting 6 (by decide),
    setting 7 (by decide), ?_, fun g => ?_, group 4 (by decide), ?_, (head 25 (by decide)).trans (upP.trans (up _)),
    (head 26 (by decide)).trans (upL.trans (up _)), ?_, queue 0, queue 1, queue 2, queue 3, queue 4, queue 5⟩
  · rw [statusOctets_headSlice (by decide), seconds, beNat_beOctets]
    cases window : s.window <;> simp only [State.secondsRemaining, window] <;> rfl
  · cases save : s.save <;> simp [octetAt_cons_succ, SaveState.code]
  · rw [statusOctets_headSlice (by decide), lost, beNat_word16Octets]
  · have coded : octetAt (statusOctets s) (16 + g.val) = boolCode (groupPending s.events g) := by
      rw [group g.val (by omega)]
      fin_cases g <;> rfl
    rw [coded, boolCode_eq_one_iff, groupPending_iff]
  · rw [statusOctets_headSlice (by decide), unmatched, beNat_word32Octets]
  · change _ = (statusCounters s).map (·.toNat)
    refine List.ext_getElem (by simp [statusCounters]) fun k bound _ => ?_
    rw [List.length_map, List.length_range] at bound
    simp only [List.getElem_map, List.getElem_range]
    exact statusOctets_counter s (List.getElem?_eq_getElem _)

/-! ### Image slot entries -/

/-- The key's octets of an image slot entry. -/
def slotKeyOctets (rec : Option ParamRecord) : List Octet :=
  match rec with
  | some r => [1, BitVec.ofNat 8 r.key.station.val, BitVec.ofNat 8 r.key.area.val] ++ word16Octets r.key.index
  | none => [0, 0, 0, 0, 0]

/-- The octets of an image slot entry after its code. -/
def slotValueOctets (v : ImageSlot) : List Octet :=
  match v with
  | .unknown => [0] ++ List.replicate 19 0
  | .known c => [1] ++ beOctetsInt 8 c ++ List.replicate 11 0
  | .pending c p t =>
    [boolCode c.isSome] ++ optIntOctets c ++ beOctetsInt 8 p ++ [BitVec.ofNat 8 t.station.val] ++ word16Octets t.tag

theorem imageSlotOctets_eq (i : Fin 512) (rec : Option ParamRecord) (v : ImageSlot) :
    imageSlotOctets i rec v = beOctets 2 i.val ++ (slotKeyOctets rec ++ ([v.code] ++ slotValueOctets v)) := by
  have joined : imageSlotOctets i rec v = ((beOctets 2 i.val ++ slotKeyOctets rec) ++ [v.code]) ++ slotValueOctets v := rfl
  rw [joined, List.append_assoc, List.append_assoc]

@[simp] theorem slotKeyOctets_length (rec : Option ParamRecord) : (slotKeyOctets rec).length = 5 := by
  cases rec <;> simp [slotKeyOctets]

@[simp] theorem slotValueOctets_length (v : ImageSlot) : (slotValueOctets v).length = 20 := by
  cases v <;> simp [slotValueOctets]

@[simp] theorem imageSlotOctets_length (i : Fin 512) (rec : Option ParamRecord) (v : ImageSlot) :
    (imageSlotOctets i rec v).length = 28 := by simp [imageSlotOctets_eq]

theorem slotKeyOctets_fields (rec : Option ParamRecord) :
    (octetAt (slotKeyOctets rec) 0, (octetAt (slotKeyOctets rec) 1).toNat, (octetAt (slotKeyOctets rec) 2).toNat,
      beNat (slice (slotKeyOctets rec) 3 2)) = match rec with
      | some r => (1#8, r.key.station.val, r.key.area.val, r.key.index.toNat)
      | none => (0#8, 0, 0, 0) := by
  cases rec with
  | none => rfl
  | some r =>
    simp [slotKeyOctets, octetAt_cons_succ, beNat_word16Octets]
    omega

theorem slotValueOctets_fields (v : ImageSlot) :
    (v.code, octetAt (slotValueOctets v) 0, (beNat (slice (slotValueOctets v) 1 8) : Int),
      (beNat (slice (slotValueOctets v) 9 8) : Int), (octetAt (slotValueOctets v) 17).toNat,
      beNat (slice (slotValueOctets v) 18 2)) = match v with
      | .unknown => (1#8, 0#8, 0, 0, 0, 0)
      | .known c => (2#8, 1#8, c % 2 ^ 64, 0, 0, 0)
      | .pending none v x => (3#8, 0#8, 0, v % 2 ^ 64, x.station.val, x.tag.toNat)
      | .pending (some c) v x => (3#8, 1#8, c % 2 ^ 64, v % 2 ^ 64, x.station.val, x.tag.toNat) := by
  cases v with
  | unknown => rfl
  | known c =>
    simp [slotValueOctets, octetAt_cons_succ, ImageSlot.code, beNat_beOctetsInt]
    decide
  | pending c p t =>
    cases c <;> simp [slotValueOctets, octetAt_cons_succ, ImageSlot.code, beNat_beOctetsInt, beNat_optIntOctets,
      beNat_word16Octets, boolCode] <;> omega

/-- The entry of the slot `k` places after the first. -/
def rangeEntry (s : State) (first k : Nat) : List Octet :=
  match finOfNat 512 (first + k) with
  | some i => imageSlotOctets i s.settings.activeBank[i] s.image[i]
  | none => []

theorem imageRange_eq (s : State) (first count : Nat) : imageRange s first count = (List.range count).flatMap (rangeEntry s first) :=
  rfl

theorem rangeEntry_slot {s : State} {first k : Nat} {i : Fin 512} (named : i.val = first + k) :
    rangeEntry s first k = imageSlotOctets i s.settings.activeBank[i] s.image[i] := by
  simp only [rangeEntry, finOfNat_eq_some named.symm]

theorem rangeEntry_length {s : State} {first count : Nat} (fits : first + count ≤ 512) :
    ∀ k ∈ List.range count, (rangeEntry s first k).length = 28 := by
  intro k member
  rw [List.mem_range] at member
  rw [rangeEntry_slot (i := ⟨first + k, by omega⟩) rfl, imageSlotOctets_length]

theorem imageRange_length {s : State} {first count : Nat} (fits : first + count ≤ 512) :
    (imageRange s first count).length = 28 * count := by
  rw [imageRange_eq, length_flatMap_const (rangeEntry_length fits), List.length_range]

theorem imageRange_slice {s : State} {first count k : Nat} {i : Fin 512} (fits : first + count ≤ 512) (within : k < count)
    (named : i.val = first + k) :
    slice (imageRange s first count) (28 * k) 28 = imageSlotOctets i s.settings.activeBank[i] s.image[i] := by
  rw [imageRange_eq, slice_flatMap (rangeEntry_length fits) (by simp [within] : (List.range count)[k]? = some k),
    rangeEntry_slot named]

theorem ownReadImage_accepted {q : Request} {s : State} {first count : Nat} (some_ : 1 ≤ count) (few : count ≤ 32)
    (fits : first + count ≤ 512) (args : argsOf q = beOctets 2 first ++ [BitVec.ofNat 8 count]) :
    ownReadImage q s = accept ([BitVec.ofNat 8 count] ++ imageRange s first count) s := by
  have firstNamed : natAt (argsOf q) 0 2 = first := by
    rw [args, natAt, slice_append_left (by simp), slice_all (by simp), beNat_beOctets_of_lt (by omega)]
  have countNamed : octetAt (argsOf q) 2 = BitVec.ofNat 8 count := by simp [args]
  have countRead : (BitVec.ofNat 8 count).toNat = count := by rw [BitVec.toNat_ofNat]; omega
  simp only [ownReadImage, firstNamed, countNamed, countRead]
  rw [if_neg (by omega)]

/-- Settles O8: each own rule on the arguments given, and the image's entries octet by octet. -/
theorem readingRequestsAnswer : Obligations.ReadingRequestsAnswer := by
  unfold Obligations.ReadingRequestsAnswer
  intro q s t
  refine ⟨fun served => ?_, fun served => exec_accepted .readStatus q s _ _ served rfl, fun n served args => ?_,
    fun n served args => ?_, fun served above => ?_, fun n served args => ?_, fun b i served args => ?_,
    fun served bad => ?_, fun served bad => ?_, fun first count some_ few fits served args => ?_, fun first count fits => ?_⟩
  · refine exec_accepted .readIdentity q s t _ served ?_
    simp only [ownRule, ownReadIdentity, identityOctets, Config.partCode, macOctets]
    rfl
  · have first : octetAt (argsOf q) 0 = BitVec.ofNat 8 n.val := by rw [args]; rfl
    refine exec_accepted .readProfile q s t _ served ?_
    simp only [ownRule, ownReadProfile, finOfNat_of_octet (by decide) first]
    rw [first]
  · have first : octetAt (argsOf q) 0 = BitVec.ofNat 8 n.val := by rw [args]; rfl
    refine exec_accepted .readStation q s t _ served ?_
    simp only [ownRule, ownReadStation, entry_named first]
    rw [first]
    rfl
  · refine exec_refused .readStation q s _ served ?_
    simp only [ownRule, ownReadStation, finOfNat_eq_none above]
  · have first : octetAt (argsOf q) 0 = BitVec.ofNat 8 n.val := by rw [args]; rfl
    refine exec_accepted .readCounters q s t _ served ?_
    simp only [ownRule, ownReadCounters, entry_named first, counterOctets, List.append_assoc]
    rw [first]
    rfl
  · have bank : BankId.ofCode (octetAt (argsOf q) 0) = some b := by
      rw [BankId.ofCode_eq_some_iff, args]
      rfl
    have slot : natAt (argsOf q) 1 2 = i.val := by
      rw [args, natAt, slice_append_right (by simp), List.length_singleton, slice_all (by simp),
        beNat_beOctets_of_lt (by omega)]
    refine exec_accepted .readParameter q s t _ served ?_
    simp only [ownRule, ownReadParameter, bank, slot, finOfNat_val]
    rfl
  · refine exec_refused .readParameter q s _ served ?_
    simp only [ownRule, ownReadParameter]
    rcases bad with noBank | above
    · rw [noBank]
      split <;> first | rfl | simp_all
    · have noSlot : finOfNat 512 (natAt (argsOf q) 1 2) = none := finOfNat_eq_none above
      simp only [noSlot]
  · refine exec_refused .readImage q s _ served ?_
    have firstEq : natAt (argsOf q) 0 2 = beNat ((argsOf q).take 2) := rfl
    simp only [ownRule, ownReadImage, firstEq, ← BitVec.toNat_inj] at bad ⊢
    rw [if_pos (by simp at bad; omega)]
  · exact exec_accepted .readImage q s t _ served (ownReadImage_accepted some_ few fits args)
  · refine ⟨imageRange_length fits, fun k i within named => ?_⟩
    simp only [imageRange_slice fits within named, imageSlotOctets_eq]
    refine ⟨?_, ?_, ?_⟩
    · rw [slice_append_left (by simp), slice_all (by simp), beNat_beOctets_of_lt (by omega)]
    · refine Eq.trans ?_ (slotKeyOctets_fields _)
      simp
    · refine Eq.trans ?_ (slotValueOctets_fields _)
      simp [octetAt_cons_succ]

end Sys2Proof.Machine

/-! PROOFS. The window's requests (R119 to R122), the system's requests (R162, R163, R168, R169), the save and the RESTART (R171
to R173, R167). -/

namespace Sys2Proof.Machine

/-! ### The window's requests -/

theorem natAt_beOctets {o : List Octet} {n v : Nat} (args : o = beOctets n v) (small : v < 256 ^ n) : natAt o 0 n = v := by
  rw [args, natAt, slice_all (by simp), beNat_beOctets_of_lt small]

section
variable {q : Request} {s : State}

theorem ownOpenWindow_accepted (key : s.keyPosition = .changeover) (shut : s.window = .shut) (stopped : s.lineIn.taken = .stopped)
    (quiet : ¬ (s.settings.stagedReady = true ∧ (s.txns ≠ [] ∨ s.saving = true))) (some_ : natAt (argsOf q) 0 2 ≠ 0) :
    ownOpenWindow q s = accept (beOctets 2 (clampLength (natAt (argsOf q) 0 2)) ++ beOctets 2 (clampLength (natAt (argsOf q) 0 2)))
      (s.openFor (clampLength (natAt (argsOf q) 0 2)) q.requester) := by
  simp only [ownOpenWindow]
  rw [if_neg (not_not.mpr key), if_neg (not_not.mpr shut), if_neg (not_not.mpr stopped), if_neg quiet, if_neg some_]

theorem isOpen_iff (w : Window) : w.isOpen = true ↔ ∃ o d, w = .opened o d := by
  cases w <;> simp [Window.isOpen]

theorem ownExtendWindow_closed (closed : s.window.isOpen = false) : ownExtendWindow q s = refuse .wrongState s := by
  unfold ownExtendWindow
  cases window : s.window with
  | opened o d =>
    rw [window] at closed
    cases closed
  | shut | draining | holdOff d => rfl

theorem ownCloseWindow_closed (closed : s.window.isOpen = false) : ownCloseWindow q s = refuse .wrongState s := by
  unfold ownCloseWindow
  cases window : s.window with
  | opened o d =>
    rw [window] at closed
    cases closed
  | shut | draining | holdOff d => rfl

end

/-- Settles O19: the own rules on an OPEN or a SHUT window, the opening with and without its swap. -/
theorem windowRequestsAct : Obligations.WindowRequestsAct := by
  unfold Obligations.WindowRequestsAct
  intro n q s small
  refine ⟨fun served args key shut stopped ready some_ => ?_, fun o d served args opened some_ => ?_, fun o d served opened => ?_⟩
  · have length : natAt (argsOf q) 0 2 = n := natAt_beOctets args small
    have quiet : ¬ (s.settings.stagedReady = true ∧ (s.txns ≠ [] ∨ s.saving = true)) := by
      rintro ⟨staged, pending | saving⟩
      · exact pending (ready staged).1
      · exact ne_false_of_eq_true saving (ready staged).2
    refine exec_accepted .openWindow q s _ _ served
      ((ownOpenWindow_accepted (s := { s with now := q.time }) key shut stopped quiet (length ▸ some_)).trans ?_)
    rw [length]
    congr 1
    simp only [State.openFor]
    cases s.settings.stagedReady <;> rfl
  · have length : natAt (argsOf q) 0 2 = n := natAt_beOctets args small
    refine exec_accepted .extendWindow q s _ _ served ?_
    simp only [ownRule, ownExtendWindow, opened, length]
    rw [if_neg some_]
    rfl
  · refine exec_accepted .closeWindow q s _ _ served ?_
    simp only [ownRule, ownCloseWindow, opened]
    rfl

/-- Settles O20: the refusals of the own rules in the order of their checks. -/
theorem windowRequestsRefused : Obligations.WindowRequestsRefused := by
  unfold Obligations.WindowRequestsRefused
  intro q s ready
  refine ⟨fun served => ⟨fun key => ?_, fun key other => ?_, fun key shut stopped busy => ?_, fun key shut stopped free none_ => ?_⟩,
    fun served closed => exec_refused .extendWindow q s _ served (ownExtendWindow_closed closed), fun served opened none_ => ?_,
    fun served closed => exec_refused .closeWindow q s _ served (ownCloseWindow_closed closed)⟩
  · exact exec_refused .openWindow q s _ served (if_pos key)
  · refine exec_refused .openWindow q s _ served ((if_neg (not_not.mpr key)).trans ?_)
    by_cases shut : s.window = .shut
    · have running : s.lineIn.taken ≠ .stopped := other.resolve_left (not_not.mpr shut)
      exact (if_neg (not_not.mpr shut)).trans (if_pos running)
    · exact if_pos shut
  · exact exec_refused .openWindow q s _ served ((if_neg (not_not.mpr key)).trans ((if_neg (not_not.mpr shut)).trans
      ((if_neg (not_not.mpr stopped)).trans (if_pos busy))))
  · exact exec_refused .openWindow q s _ served ((if_neg (not_not.mpr key)).trans ((if_neg (not_not.mpr shut)).trans
      ((if_neg (not_not.mpr stopped)).trans ((if_neg free).trans (if_pos none_)))))
  · obtain ⟨o, d, opened⟩ := (isOpen_iff _).mp opened
    refine exec_refused .extendWindow q s _ served ?_
    simp only [ownRule, ownExtendWindow, opened]
    exact if_pos none_

/-! ### The manager list and the port and window settings -/

/-- The list of managers read back from its 24 octets; an entry of zeros is an empty one. -/
theorem managersOf_optMacOctets {list : Vector (Option Mac) 4} (nonzero : ∀ i : Fin 4, list[i] ≠ some 0) :
    managersOf (list.toList.flatMap optMacOctets) = list := by
  refine Vector.ext fun i bound => ?_
  have at_ : list.toList[i]? = some list[i] := by simp [bound]
  have entry := slice_flatMap (f := optMacOctets) (fun m _ => optMacOctets_length m) at_
  have number : (macAt (list.toList.flatMap optMacOctets) (6 * i)).toNat = beNat (optMacOctets list[i]) := by
    have carried := (macAt_eq_iff (list.toList.flatMap optMacOctets) (6 * i) _).mp rfl
    rw [carried, entry]
  simp only [managersOf, getElem_tabulate, optMacAt]
  have zero : macAt (list.toList.flatMap optMacOctets) (6 * i) = 0 ↔ beNat (optMacOctets list[i]) = 0 := by
    rw [← number]
    exact BitVec.toNat_inj.symm
  cases holds : list[i] with
  | none =>
    rw [if_pos (zero.mpr (by rw [holds]; rfl))]
  | some m =>
    have value : (macAt (list.toList.flatMap optMacOctets) (6 * i)).toNat = m.toNat := by
      rw [number, holds, beNat_optMacOctets]
    rw [BitVec.toNat_inj] at value
    have someAddress : m ≠ 0 := fun isZero => nonzero ⟨i, bound⟩ (by rw [← isZero]; exact holds)
    rw [value, if_neg someAddress]

theorem any_badManager_iff (v : Vector (Option Mac) 4) (own : Mac) : v.toList.any (badManager own) = true ↔
    ∃ (i : Fin 4) (m : Mac), v[i] = some m ∧ (isGroup m = true ∨ m = own) := by
  rw [List.any_eq_true]
  constructor
  · rintro ⟨x, member, bad⟩
    obtain ⟨i, bound, holds⟩ := List.getElem_of_mem member
    cases x with
    | none => cases bad
    | some m => exact ⟨⟨i, by simpa using bound⟩, m, by simpa using holds, by simpa [badManager] using bad⟩
  · rintro ⟨i, m, holds, bad⟩
    exact ⟨some m, by rw [← holds]; exact Vector.mem_toList_iff.mpr (Vector.getElem_mem _), by simpa [badManager] using bad⟩

theorem duplicateManagers_iff (v : Vector (Option Mac) 4) : duplicateManagers v.toList = true ↔
    ∃ i j : Fin 4, i ≠ j ∧ v[i] = v[j] ∧ v[i] ≠ none := by
  simp only [duplicateManagers, Bool.not_eq_true', decide_eq_false_iff_not]
  constructor
  · intro twice
    by_contra apart
    push Not at apart
    refine twice (List.pairwise_filterMap.mpr (List.pairwise_iff_getElem.mpr fun a b ha hb less m hm m' hm' same => ?_))
    rw [Vector.length_toList] at ha hb
    have hm : v[a] = some m := by simpa using hm
    have hm' : v[b] = some m' := by simpa using hm'
    have empty := apart ⟨a, ha⟩ ⟨b, hb⟩ (by simpa using Nat.ne_of_lt less) (hm.trans (same ▸ hm'.symm))
    exact Option.some_ne_none m (hm.symm.trans empty)
  · rintro ⟨i, j, differ, same, present⟩ once
    obtain ⟨m, holds⟩ := Option.ne_none_iff_exists'.mp present
    exact differ (reduceOption_nodup_vector once holds (same ▸ holds)).symm

theorem triggerBits_iff : ∀ o : Octet, o &&& 0xE0#8 = 0 ↔ o.toNat < 32 := by decide

theorem TriggerSet.ofCode_code (t : TriggerSet) : TriggerSet.ofCode t.code = some t := by
  obtain ⟨a, b, c, d, e⟩ := t
  revert a b c d e
  decide

/-- Settles O48: each own rule on the settings its octets carry. -/
theorem systemRequestsAct : Obligations.SystemRequestsAct := by
  unfold Obligations.SystemRequestsAct
  intro q s put
  refine ⟨fun served => exec_accepted .lockTables q s _ _ served rfl, fun served => exec_accepted .unlockTables q s _ _ served rfl,
    fun list served args nonzero => ?_, fun p l a b m served args => ?_, fun served bad => ?_, fun h t small served args => ?_,
    fun served above => ?_⟩
  · have read : managersOf (argsOf q) = list := by rw [args, managersOf_optMacOctets nonzero]
    have listed (good : ∀ (i : Fin 4) (m : Mac), list[i] = some m → isGroup m = false ∧ m ≠ s.identity.address) :
        ¬ list.toList.any (badManager s.identity.address) = true := by
      rw [any_badManager_iff]
      rintro ⟨i, m, holds, group | own⟩
      · exact ne_false_of_eq_true group (good i m holds).1
      · exact (good i m holds).2 own
    refine ⟨fun bad => ?_, fun good => ⟨fun twice => ?_, fun once => ?_⟩⟩
    · refine exec_refused .setManagers q s _ served ?_
      simp only [ownRule, ownSetManagers, read]
      rw [if_pos ((any_badManager_iff _ _).mpr bad)]
    · refine exec_refused .setManagers q s _ served ?_
      simp only [ownRule, ownSetManagers, read]
      rw [if_neg (listed good), if_pos ((duplicateManagers_iff _).mpr twice)]
    · have apart : ¬ duplicateManagers list.toList = true := by
        rw [duplicateManagers_iff]
        rintro ⟨i, j, differ, same, present⟩
        exact present (once i j differ same)
      refine exec_accepted .setManagers q s _ _ served ?_
      simp only [ownRule, ownSetManagers, read]
      rw [if_neg (listed good), if_neg apart]
  · have type : word16At (argsOf q) 4 = m := by
      rw [word16At_eq_iff, args, slice_append_right (le_refl 4)]
      change _ = beNat (slice _ 0 2)
      rw [slice_all (by simp), beNat_beOctets_of_lt m.isLt]
    have plant : ForeignPolicy.ofCode (octetAt (argsOf q) 0) = some p := by
      rw [ForeignPolicy.ofCode_eq_some_iff, args]
      rfl
    have line : ForeignPolicy.ofCode (octetAt (argsOf q) 1) = some l := by
      rw [ForeignPolicy.ofCode_eq_some_iff, args]
      rfl
    have plantShare : octetAt (argsOf q) 2 = a := by rw [args]; rfl
    have lineShare : octetAt (argsOf q) 3 = b := by rw [args]; rfl
    have own : ownSetPortSettings q { s with now := q.time } = if badManagementType m then refuse .badValue { s with now := q.time }
        else accept ([p.code, l.code, BitVec.ofNat 8 (clampShare a.toNat), BitVec.ofNat 8 (clampShare b.toNat)] ++ word16Octets m)
          (put { s.settings with plant := ⟨p, clampShare a.toNat⟩, line := ⟨l, clampShare b.toNat⟩, managementType := m }) := by
      simp only [ownSetPortSettings, plant, line, type, plantShare, lineShare]
      rfl
    refine ⟨fun bad => ?_, fun notLow notVlan notFlow => ?_⟩
    · exact exec_refused .setPortSettings q s _ served (own.trans (if_pos ((badManagementType_iff m).mpr bad)))
    · have good : ¬ badManagementType m = true := by
        rw [badManagementType_iff]
        rintro (low | vlan | flow)
        · omega
        · exact notVlan vlan
        · exact notFlow flow
      exact exec_accepted .setPortSettings q s _ _ served (own.trans (if_neg good))
  · refine exec_refused .setPortSettings q s _ served ?_
    simp only [ownRule, ownSetPortSettings]
    rcases bad with noPlant | noLine
    · rw [noPlant]
      cases ForeignPolicy.ofCode (octetAt (argsOf q) 1) <;> rfl
    · simp only [noLine]
  · have hold : natAt (argsOf q) 0 2 = h := by
      rw [args, natAt, slice_append_left (by simp), slice_all (by simp), beNat_beOctets_of_lt small]
    have triggers : TriggerSet.ofCode (octetAt (argsOf q) 2) = some t := by
      rw [args, octetAt_append_right (by simp)]
      exact t.ofCode_code
    refine ⟨fun long => ?_, fun short => ?_⟩
    · refine exec_refused .setWindowSettings q s _ served ?_
      simp only [ownRule, ownSetWindowSettings, triggers, hold]
      exact if_pos long
    · refine exec_accepted .setWindowSettings q s _ _ served ?_
      simp only [ownRule, ownSetWindowSettings, triggers, hold]
      exact if_neg (Nat.not_lt.mpr short)
  · have none_ : TriggerSet.ofCode (octetAt (argsOf q) 2) = none :=
      if_neg (mt (triggerBits_iff _).mp (Nat.not_lt.mpr above))
    refine exec_refused .setWindowSettings q s _ served ?_
    simp only [ownRule, ownSetWindowSettings, none_]

/-! ### The save and the RESTART -/

theorem stored_eq (st : Settings) : st.stored = { st with stations := tabulate fun n =>
    { st.stations[n] with state := if st.stations[n].state = .service then .normal else st.stations[n].state } } := by
  unfold Settings.stored storedStations
  congr 2
  funext n
  have same (x : StationState) : x.stored = if x = .service then .normal else x := by cases x <;> rfl
  exact congrArg (fun state => { st.stations[n] with state }) (same _)

theorem sendReply_accepted {p : Port} {s : State} (accepts : (s.port p).accepts .ordinary = true) (octets : List Octet)
    (restart : Bool) : s.sendReply p octets restart = s.handOver p .ordinary (partFrame octets restart) := by
  rw [State.sendReply, accepts, Bool.not_true, Bool.and_false, if_neg Bool.false_ne_true]

theorem sendReply_dropped {p : Port} {s : State} (drops : (s.port p).accepts .ordinary = false) (octets : List Octet) :
    s.sendReply p octets true = (s.setPort p ((s.port p).countDrop .ordinary .part)).beginWarmStart := by
  rw [State.sendReply, State.handOver, PortState.handOver, drops, if_neg Bool.false_ne_true]
  rfl

/-- Settles O49: the copy, the end of the save by its verify, and RESTART by what becomes of its reply. -/
theorem saveAndRestartAct : Obligations.SaveAndRestartAct := by
  unfold Obligations.SaveAndRestartAct
  refine ⟨fun q s served => ?_, fun t verified s running later => ⟨fun copy saving => ⟨fun good => ?_, fun bad => ?_⟩, fun idle => ?_⟩,
    ?_⟩
  · refine exec_accepted .saveSettings q s _ _ served ?_
    simp only [ownRule, ownSaveSettings, stored_eq]
    rfl
  · simp only [exec, execSaveEnd, clock_alive t s (alive_of_running running) later, running, saving, good, State.endSave]
    rfl
  · simp only [exec, execSaveEnd, clock_alive t s (alive_of_running running) later, running, saving, bad, State.endSave]
    rfl
  · simp only [exec, execSaveEnd, clock_alive t s (alive_of_running running) later, running]
    cases save : s.save with
    | saving copy =>
      rw [State.saving, save] at idle
      cases idle
    | idle | failed => rfl
  · intro q s served waiting c
    have port : waiting.port q.port = s.port q.port := by cases q.port <;> rfl
    have executed := exec_accepted .restart q s waiting [] served rfl
    refine ⟨fun up room => ?_, fun dropped => ?_⟩
    · have accepts : (waiting.port q.port).accepts .ordinary = true := by
        rw [port]
        exact Bool.and_eq_true_iff.mpr ⟨up, decide_eq_true room⟩
      exact executed.trans (congrArg _ (sendReply_accepted accepts _ true))
    · have drops : (waiting.port q.port).accepts .ordinary = false := by
        rw [port, PortState.accepts, Bool.and_eq_false_iff]
        exact dropped.imp_right fun full => decide_eq_false (Nat.not_lt.mpr full)
      refine executed.trans (congrArg _ ((sendReply_dropped drops _).trans ?_))
      rw [port]
      rfl

end Sys2Proof.Machine

/-! PROOFS. The deadlines (R123, R128, R149), the close of a window (R124 to R126), the line inputs (R113 to R116) and the starts
(R174 to R177). -/

namespace Sys2Proof.Machine

/-! ### The deadlines -/

/-- Settles O21: each deadline by the window, and TRIP by its pulse end, at the present time. -/
theorem deadlinesAct : Obligations.DeadlinesAct := by
  unfold Obligations.DeadlinesAct
  intro t s later s1
  have now (alive : s.phase.alive = true) : s.clock t = s1 := clock_alive t s alive later
  refine ⟨fun running => ?_, fun phase => ?_⟩
  · have now := now (alive_of_running running)
    have runs : s1.phase = .running := running
    have windowAct : exec (.windowDeadline t) s = match s.window with
        | .opened _ d => if d ≤ t then .next (s1.closeWindow .expiry) else .next s1
        | .shut | .draining | .holdOff _ => .next s1 := by
      simp only [exec, execWindowDeadline, now, runs, if_true]
      rfl
    have holdOffAct : exec (.holdOffDeadline t) s = match s.window with
        | .holdOff d => if d ≤ t then .next { s1 with window := .shut } else .next s1
        | .shut | .draining | .opened _ _ => .next s1 := by
      simp only [exec, execHoldOffDeadline, now, runs, if_true]
      rfl
    refine ⟨fun o d window due => ?_, fun early => ?_, fun d window due => ?_, fun early => ?_⟩
    · rw [windowAct, window]
      exact if_pos due
    · rw [windowAct]
      cases window : s.window with
      | opened o d => exact if_neg (Nat.not_le.mpr (early o d window))
      | shut | draining | holdOff d => rfl
    · rw [holdOffAct, window]
      exact if_pos due
    · rw [holdOffAct]
      cases window : s.window with
      | holdOff d => exact if_neg (Nat.not_le.mpr (early d window))
      | shut | draining | opened o d => rfl
  · have tripAct : exec (.tripPulseEnd t) s = match s.pulseEnd with
        | some e => if e ≤ t then .next s1.endTrip else .next s1
        | none => .next s1 := by
      have alive : s.phase.alive = true := by rcases phase with running | loading <;> simp [*, Phase.alive]
      simp only [exec, execTripPulseEnd, now alive]
      have same : s1.phase = s.phase := rfl
      rcases phase with running | loading
      · rw [same, running] <;> rfl
      · rw [same, loading] <;> rfl
    refine ⟨fun e pulse due => ?_, fun early => ?_⟩
    · rw [tripAct, pulse]
      exact if_pos due
    · rw [tripAct]
      cases pulse : s.pulseEnd with
      | some e => exact if_neg (Nat.not_le.mpr (early e pulse))
      | none => rfl

/-! ### The close of a window -/

theorem closedEvent_below_seven (c : CloseCause) (inFlight : Nat) : (closedEvent c inFlight).natural ≠ 7 := by
  cases c <;> exact Nat.ne_of_beq_eq_false rfl

theorem closeWindow_opened {c : CloseCause} {s : State} {o d : Nat} (opened : s.window = .opened o d) :
    s.closeWindow c = ({ s with window := .draining }.raise (closedEvent c s.changeInFlight)).examineDraining := by
  rw [raise_below_seven _ _ (closedEvent_below_seven _ _)]
  simp only [State.closeWindow, opened]

theorem closeWindow_other {c : CloseCause} {s : State} (other : s.window.isOpen = false) : s.closeWindow c = s := by
  unfold State.closeWindow
  cases window : s.window with
  | opened o d =>
    rw [window] at other
    cases other
  | shut | draining | holdOff d => rfl

/-- Settles O22: the close is the raising of WINDOW-CLOSED and an examination of DRAINING. -/
theorem windowCloseAndDraining : Obligations.WindowCloseAndDraining := by
  unfold Obligations.WindowCloseAndDraining
  intro c s waiting closed
  have event : closed = { s with window := .draining }.raise (closedEvent c s.changeInFlight) := by
    refine congrArg (State.raise · _) ?_
    rcases c with m | _ | _ | ⟨t, n⟩
    case trigger => cases t <;> cases n <;> rfl
    all_goals rfl
  have events : OnlyEvents s closed := by
    rw [event, raise_below_seven _ _ (closedEvent_below_seven _ _)]
    exact OnlyEvents.trans (t := { s with window := .draining }) rfl (takeRaised_events _ _)
  have draining : closed.window = .draining := by rw [event, raise_below_seven _ _ (closedEvent_below_seven _ _), takeRaised_window]
  have count : closed.changeInFlight = waiting := by rw [State.changeInFlight, events.txns]
  have examined (o d : Nat) (opened : s.window = .opened o d) : s.closeWindow c = closed.examineDraining := by
    rw [closeWindow_opened opened, event]
  refine ⟨fun o d opened some_ => ⟨?_, draining⟩, fun o d opened none_ => ?_, closeWindow_other, isOpen_iff _, fun t => rfl,
    fun t n out => ?_, fun t n in_ => if_pos in_⟩
  · rw [examined o d opened, examineDraining_waits (by rw [count]; exact some_)]
  · rw [examined o d opened, examineDraining_ends draining (count.trans none_),
      (events.trans (changeoverCheck_onlyEvents closed).1).startHoldOff_eq]
  · rw [State.report, out, if_neg Bool.false_ne_true]

/-! ### The line inputs -/

theorem shows_eq {α : Type} [DecidableEq α] (v : α) (now : Nat) (x : Sampled α) : x.shows v now =
    ⟨x.taken, if v = x.taken then none
      else if x.candidate.map (·.1) = some v then x.candidate else some (v, now)⟩ := by
  obtain ⟨taken, candidate⟩ := x
  unfold Sampled.shows
  dsimp only
  split
  · rfl
  · cases candidate with
    | none => rfl
    | some shown =>
      obtain ⟨c, since⟩ := shown
      simp only [Option.map_some, Option.some.injEq]
      split <;> rfl

/-- Settles O24: the codes by their tables, and each input by what it shows. -/
theorem inputChangesSetCandidates : Obligations.InputChangesSetCandidates := by
  unfold Obligations.InputChangesSetCandidates
  refine ⟨by decide, fun t a b l s => ⟨fun running later => ?_, fun held => ?_⟩⟩
  · have now := clock_alive t s (alive_of_running running) later
    constructor
    · simp only [exec, execKeyContactChange, now, running, if_true, shows_eq]
    · simp only [exec, execLstopChange, now, running, if_true, shows_eq]
  · have now : s.clock t = s := by simp only [State.clock, held]
    constructor
    · simp only [exec, execKeyContactChange, now, held]
      rfl
    · simp only [exec, execLstopChange, now, held]
      rfl

theorem stable_eq_some {α : Type} {now since : Nat} {c : α} {x : Sampled α} (shown : x.candidate = some (c, since))
    (long : since + Config.ms 50 ≤ now) : x.stable now = some c := by
  simp only [Sampled.stable, shown]
  exact if_pos long

theorem stable_eq_none {α : Type} {now : Nat} {x : Sampled α}
    (short : ∀ c since, x.candidate = some (c, since) → now < since + Config.ms 50) : x.stable now = none := by
  unfold Sampled.stable
  split
  · next c since shown => exact if_neg (Nat.not_le.mpr (short c since shown))
  · rfl

/-- Settles O25: the effects of a taken code are those of `takeKeyCode`, in its order. -/
theorem stableInputsAreTaken : Obligations.StableInputsAreTaken := by
  unfold Obligations.StableInputsAreTaken
  intro t s running later s1
  have now : s.clock t = s1 := clock_alive t s (alive_of_running running) later
  have runs : s1.phase = .running := running
  refine ⟨fun code since shown long => ?_, fun short => ?_, fun line since shown long => ?_, fun short => ?_⟩
  · have stable : s1.key.stable s1.now = some code := stable_eq_some shown long
    have taken : exec (.keyCodeTaken t) s = .next (s1.takeKeyCode code) := by
      simp only [exec, execKeyCodeTaken, now, runs, if_true, stable]
    rw [taken]
    rfl
  · have stable : s1.key.stable s1.now = none := stable_eq_none short
    simp only [exec, execKeyCodeTaken, now, runs, if_true, stable]
  · have stable : s1.lineIn.stable s1.now = some line := stable_eq_some shown long
    have taken : exec (.lineStateTaken t) s = .next (s1.takeLineState line) := by
      simp only [exec, execLineStateTaken, now, runs, if_true, stable]
    rw [taken]
    rfl
  · have stable : s1.lineIn.stable s1.now = none := stable_eq_none short
    simp only [exec, execLineStateTaken, now, runs, if_true, stable]

/-! ### The starts -/

theorem load_eq (st : Store) : st.load = if st.mark && st.checkAgrees then
    { st.contents with stations := tabulate fun n => { st.contents.stations[n] with
      state := if st.contents.stations[n].state = .service then .normal else st.contents.stations[n].state } }
    else defaultSettings := by
  rw [Store.load, stored_eq]
  rfl

/-- Settles O50: each start is the state the model builds for it, field by field. -/
theorem startsAct : Obligations.StartsAct := by
  unfold Obligations.StartsAct
  intro s kept stored loaded cold emptied held fresh
  have load : s.store.load = loaded := load_eq s.store
  refine ⟨fun supplied => ?_, fun phase => ?_, ?_, ?_, ?_⟩
  · cases phase : s.phase with
    | off => exact absurd phase supplied
    | resetHeld | loadingCold | loadingWarm | running =>
      simp only [exec, execResetAsserted, phase]
      rfl
  · have begun : s.beginColdStart = fresh := by
      rw [State.beginColdStart, load]
      rfl
    rw [← begun]
    rcases phase with off | reset
    · simp only [exec, execColdStart, off]
    · simp only [exec, execColdStart, reset]
  · rw [State.beginWarmStart, State.reAlarm, load, alarmLevel_eq]
    rfl
  · intro t loading later u v
    have alive : s.phase.alive = true := by
      cases phase : s.phase <;> rw [phase] at loading <;> first | rfl | cases loading
    have now := clock_alive t s alive later
    have completed : exec (.settingsLoadComplete t) s = .next { s with now := t }.completeLoad := by
      simp only [exec, execSettingsLoadComplete, now]
      cases phase : s.phase <;> rw [phase] at loading <;> first | rfl | cases loading
    have key : v.key = u.key := by
      change (if s.store.mark && s.store.checkAgrees then u else u.raise _).key = u.key
      split
      · rfl
      · exact (raise_onlyEvents _ u).key
    have fault : v.key.taken = .fault ↔ contactCode s.keyA s.keyB = .fault := by rw [key]
    rw [completed]
    change Host.Outcome.next (if v.key.taken = .fault then v.raise _ else v) = _
    simp only [fault]
    rfl
  · exact ⟨s.losePower, rfl, rfl, rfl, rfl, rfl, rfl, rfl⟩

/-! ### The state after reset -/

/-- Settles O51: the reset state is empty, and its settings are the defaults wherever it holds any. -/
theorem resetIsSound : Obligations.ResetIsSound where
  events := ⟨by decide, by decide, by decide⟩
  table := tableSound_of_empty rfl
  image := imageSound_of_empty rfl emptyImage_getElem
  marks := marksSound_of_unmarked (by simp [State.reset]) fun p => by cases p <;> exact ⟨rfl, rfl⟩
  queues := ⟨freshPort_sound true, freshPort_sound true, fun _ => ⟨rfl, rfl⟩, fun halted => absurd rfl halted⟩
  window := ⟨Bool.noConfusion, fun o d opened => Window.noConfusion opened, fun _ => rfl⟩
  service := ⟨fun n service => by simp [station_eq, State.reset, defaultSettings, defaultStation] at service, Bool.noConfusion⟩
  banks := ⟨⟨bankSound_empty, bankSound_empty⟩, ⟨bankSound_empty, bankSound_empty⟩, fun c saving => SaveState.noConfusion saving⟩
  stations := ⟨stations_tableProperty.default, stations_tableProperty.default, fun c saving => SaveState.noConfusion saving⟩
  ranges := ⟨⟨defaultSettings_ranges _, defaultSettings_ranges _, fun c saving => SaveState.noConfusion saving⟩, by decide, Bool.noConfusion⟩

end Sys2Proof.Machine

/-! PROOFS. Hand-over, selection and transmission (R133 to R138), and what a change of link does (R140, R141, R104). -/

namespace Sys2Proof.Machine

/-! ### Hand-over and selection -/

theorem transmitterFree_iff_forall (ps : PortState) : ps.transmitterFree = true ↔
    ∀ g, g ∈ ps.express ∨ g ∈ ps.ordinary → g.inTransmission = false := by
  rw [transmitterFree_iff]
  simp [or_imp, forall_and]

theorem accepts_iff (ps : PortState) (k : QueueKind) : ps.accepts k = true ↔
    ps.up = true ∧ (ps.queue k).length < (if k = .express then 32 else 64) := by
  rw [PortState.accepts, Bool.and_eq_true, decide_eq_true_iff]
  cases k <;> rfl

theorem entersAlone_iff (ps : PortState) (k : QueueKind) : ps.entersAlone k = true ↔
    k = .express ∧ (∀ g, g ∈ ps.express ∨ g ∈ ps.ordinary → g.inTransmission = false) ∧ ps.ordinary = [] := by
  simp only [PortState.entersAlone, Bool.and_eq_true, decide_eq_true_eq, transmitterFree_iff_forall, and_assoc]

theorem joinsSelection_iff (ps : PortState) (now share : Nat) (k : QueueKind) : ps.joinsSelection now share k = true ↔
    k = .ordinary ∧ ps.aloneAt = some now ∧ ps.ordinary = [] ∧ (∃ g ∈ ps.express, g.inTransmission = true) ∧
      ps.runCount < share := by
  simp only [PortState.joinsSelection, Bool.and_eq_true, decide_eq_true_eq, List.any_eq_true, and_assoc]

theorem handOver_accepted {now share : Nat} {k : QueueKind} {f : QueuedFrame} {ps : PortState} (accepts : ps.accepts k = true) :
    ps.handOver now share k f = ps.enter now share k f := if_pos accepts

theorem handOver_dropped {now share : Nat} {k : QueueKind} {f : QueuedFrame} {ps : PortState} (drops : ¬ ps.accepts k = true) :
    ps.handOver now share k f = ps.countDrop k f.origin := if_neg drops

theorem select_unready {share : Nat} {ps : PortState} (unready : ps.up = false ∨ ¬ ps.transmitterFree = true) :
    ps.select share = ps := by
  refine if_neg fun ready => ?_
  obtain ⟨up, free⟩ := Bool.and_eq_true_iff.mp ready
  rcases unready with down | busy
  · exact ne_false_of_eq_true up down
  · exact busy free

/-- Settles O40: an entry by its three cases, a drop by the frame's origin and the port, a selection by the two queues. -/
theorem handOverAndSelection : Obligations.HandOverAndSelection := by
  unfold Obligations.HandOverAndSelection
  refine ⟨fun s p k f o x b => ⟨rfl, rfl, rfl, rfl, rfl⟩, fun now share k f ps => ?_⟩
  intro c room entered start free alone together
  have pushed : ps.push k f = entered := by cases k <;> rfl
  have accepts (up : ps.up = true) (fits : room) : ps.accepts k = true := (accepts_iff ps k).mpr ⟨up, fits⟩
  have drops (lost : ps.up = false ∨ ¬ room) : ¬ ps.accepts k = true := by
    rw [accepts_iff]
    rintro ⟨up, fits⟩
    rcases lost with down | full
    · exact ne_false_of_eq_true up down
    · exact full fits
  refine ⟨fun up fits isAlone => ?_, fun up fits joins => ?_, fun up fits notAlone notTogether => ?_, fun origin lost => ?_,
    fun origin down => ?_, fun origin up full express => ?_, fun origin up full ordinary => ?_, fun unready => ?_, fun up waits => ?_⟩
  · rw [handOver_accepted (accepts up fits), PortState.enter, if_pos ((entersAlone_iff ps k).mpr isAlone), pushed]
  · have notAlone : ¬ ps.entersAlone k = true := by
      rw [entersAlone_iff, joins.1]
      rintro ⟨ordinary, -⟩
      cases ordinary
    rw [handOver_accepted (accepts up fits), PortState.enter, if_neg notAlone,
      if_pos ((joinsSelection_iff ps now share k).mpr joins), pushed]
  · rw [handOver_accepted (accepts up fits), PortState.enter, if_neg (mt (entersAlone_iff ps k).mp notAlone),
      if_neg (mt (joinsSelection_iff ps now share k).mp notTogether), pushed]
  · rw [handOver_dropped (drops lost), origin]
    rfl
  · rw [handOver_dropped (drops (.inl down)), origin]
    simp only [PortState.countDrop, down]
    rfl
  · rw [handOver_dropped (drops (.inr full)), origin]
    simp only [PortState.countDrop, up, express, if_true]
    rfl
  · rw [handOver_dropped (drops (.inr full)), origin]
    simp only [PortState.countDrop, up, ordinary, if_true]
    rfl
  · refine select_unready (unready.imp_right fun sending isFree => ?_)
    obtain ⟨g, member, sends⟩ := sending
    exact ne_false_of_eq_true sends ((transmitterFree_iff_forall ps).mp isFree g member)
  · have ready : (ps.up && ps.transmitterFree) = true :=
      Bool.and_eq_true_iff.mpr ⟨up, (transmitterFree_iff_forall ps).mpr waits⟩
    refine ⟨fun noExpress noOrdinary => ?_, fun g rest ordinary turn => ?_, fun g rest express someOrdinary less => ?_,
      fun g rest express noOrdinary => ?_⟩
    · simp only [PortState.select, ready, if_true, noExpress, noOrdinary]
    · cases express : ps.express with
      | nil => simp only [PortState.select, ready, if_true, express, ordinary, startHead, start]
      | cons x others =>
        have reached : share ≤ ps.runCount := turn.resolve_left (by simp [express])
        simp only [PortState.select, ready, if_true, express, ordinary, startHead, start, if_pos reached]
    · obtain ⟨x, others, ordinary⟩ := List.exists_cons_of_ne_nil someOrdinary
      simp only [PortState.select, ready, if_true, express, ordinary, startHead, start, if_neg (Nat.not_le.mpr less)]
    · simp only [PortState.select, ready, if_true, express, noOrdinary, startHead, start]

/-! ### A completion -/

theorem complete_express {ps : PortState} {f : QueuedFrame} {rest : List QueuedFrame} (queue : ps.express = f :: rest)
    (sending : f.inTransmission = true) : ps.complete = some (f, { ps with
      express := rest, aloneAt := none, egress := { ps.egress with framesSent := satInc ps.egress.framesSent } }) := by
  simp only [PortState.complete, queue, sending, if_true]

theorem complete_ordinary {ps : PortState} {f : QueuedFrame} {rest : List QueuedFrame} (sound : PortSound ps)
    (queue : ps.ordinary = f :: rest) (sending : f.inTransmission = true) : ps.complete = some (f, { ps with
      ordinary := rest, aloneAt := none, egress := { ps.egress with framesSent := satInc ps.egress.framesSent } }) := by
  have expressWaits : ps.express.any (·.inTransmission) = false :=
    sound.oneTransmission.resolve_right (by simp [queue, sending])
  cases express : ps.express with
  | nil => simp only [PortState.complete, express, queue, sending, if_true]
  | cons g others =>
    have waits : g.inTransmission = false := by
      rw [express] at expressWaits
      exact (Bool.or_eq_false_iff.mp expressWaits).1
    simp only [PortState.complete, express, queue, sending, waits, if_true, if_false, Bool.false_eq_true]

theorem complete_free {ps : PortState} (free : ps.transmitterFree = true) : ps.complete = none := by
  have waits := (transmitterFree_iff_forall ps).mp free
  cases sent : ps.complete with
  | none => rfl
  | some x =>
    obtain ⟨f, after⟩ := x
    obtain ⟨sending, -, -, -, queues⟩ := complete_cases sent
    have member : f ∈ ps.express ∨ f ∈ ps.ordinary := by
      rcases queues with ⟨express, -⟩ | ⟨ordinary, -⟩
      · exact .inl (by simp [express])
      · exact .inr (by simp [ordinary])
    exact absurd (waits f member) (ne_false_of_eq_true sending)

theorem complete_eq (r : TxnRef) (d : Nat) (x : Txn) :
    x.complete r d = if x.ref = r ∧ x.state = .queued then { x with state := .sent d } else x := by
  unfold Txn.complete
  split
  · next queued => simp [queued]
  · next sent => simp [sent]

theorem replyDeadline_eq (s : State) (n : Fin 32) : s.replyDeadline n =
    s.now + Config.ms (10 * s.settings.profiles[(s.station n).config.profile].replyTimeout.toNat) := by
  simp only [State.replyDeadline, Config.timeoutUnit, Config.ms]
  omega

/-- A warm start leaves nothing to select. -/
theorem beginWarmStart_selectOn (p : Port) (s : State) : s.beginWarmStart.selectOn p = s.beginWarmStart := by
  have port : s.beginWarmStart.port p = (s.port p).emptied := by cases p <;> rfl
  rw [State.selectOn, port, emptied_select, ← port, setPort_port]

/-- Settles O41: the port once the frame has left it, the report of a mark, and the selection or the warm start. -/
theorem transmissionCompletes : Obligations.TransmissionCompletes := by
  unfold Obligations.TransmissionCompletes
  intro t p s running later sound s1 ps sent
  have now : s.clock t = s1 := clock_alive t s (alive_of_running running) later
  have runs : s1.phase = .running := running
  have port : s1.port p = ps := by cases p <;> rfl
  constructor
  · intro k f rest queue sending freed deadline reported
    have completes : ∃ after, ps.complete = some (f, after) ∧ s1.setPort p after = freed := by
      cases k with
      | express => exact ⟨_, complete_express queue sending, rfl⟩
      | ordinary => exact ⟨_, complete_ordinary sound queue sending, rfl⟩
    obtain ⟨after, complete, left⟩ := completes
    have reports : s1.frameSent p f after = reported := by
      cases mark : f.txn with
      | none => simp only [State.frameSent, reported, mark, left]
      | some r =>
        simp only [State.frameSent, reported, mark, left, State.txnSent, complete_eq, replyDeadline_eq]
        cases p <;> rfl
    have done : exec (.transmissionComplete t p) s = .next ((if f.restart then reported.beginWarmStart else reported).selectOn p) := by
      simp only [exec, execTransmissionComplete, now, runs, if_true, port, complete]
      rw [← reports]
      rfl
    refine ⟨fun plain => ?_, fun restarts => ?_⟩
    · rw [done, plain, if_neg Bool.false_ne_true]
    · rw [done, restarts, if_pos rfl, beginWarmStart_selectOn]
  · intro free
    simp only [exec, execTransmissionComplete, now, runs, if_true, port, complete_free free]

/-! ### The loss of a link and its return -/

theorem satInc_toNat {w : Nat} (c : BitVec w) : (satInc c).toNat = min (c.toNat + 1) (2 ^ w - 1) := by
  have bound := c.isLt
  unfold satInc
  split
  · next top =>
    rw [top, BitVec.toNat_allOnes]
    omega
  · next below =>
    have notTop : c.toNat ≠ 2 ^ w - 1 := fun same => below (BitVec.eq_of_toNat_eq (by rw [same, BitVec.toNat_allOnes]))
    cases w with
    | zero => omega
    | succ w =>
      have two : (2 : Nat) ≤ 2 ^ (w + 1) := by rw [pow_succ]; have := Nat.one_le_two_pow (n := w); omega
      have one : (1 : BitVec (w + 1)).toNat = 1 := by
        change (1#(w + 1)).toNat = 1
        rw [BitVec.toNat_ofNat, Nat.mod_eq_of_lt (by omega)]
      rw [BitVec.toNat_add, one, Nat.mod_eq_of_lt (by omega)]
      omega

theorem satAdd_toNat {w : Nat} (n : Nat) (c : BitVec w) : (satAdd n c).toNat = min (c.toNat + n) (2 ^ w - 1) := by
  induction n generalizing c with
  | zero =>
    have bound := c.isLt
    rw [satAdd]
    omega
  | succ n ih =>
    rw [satAdd, ih, satInc_toNat]
    omega

/-- The discards of a loss of link, before DRAINING is examined. -/
theorem discards_eq_unqueued {s : State} (table : TableSound s) :
    (queuedTxns s).foldl (fun s t => s.endQuietly t .discard 0) s = { s with
      txns := s.txns.filter fun x => !x.isQueued
      image := (s.txns.filter fun x => x.isQueued).foldl (fun image x => releasedImage image x .discard) s.image } := by
  rw [discards_eq, queuedTxns_eq]
  congr 1
  refine List.filter_congr fun x member => Bool.eq_iff_iff.mpr ?_
  rw [decide_eq_true_iff, Bool.not_eq_true']
  constructor
  · intro kept
    by_contra queued
    rw [Bool.not_eq_false] at queued
    exact kept x (List.mem_filter.mpr ⟨member, queued⟩) rfl
  · intro sent y gone same
    obtain ⟨listed, queued⟩ := List.mem_filter.mp gone
    rw [table.eq_of_ref listed member same, queued] at sent
    cases sent

theorem discardQueued_cases (s : State) (table : TableSound s) :
    let gone := s.txns.filter fun x => x.isQueued
    let left : State :=
      { s with
        txns := s.txns.filter fun x => !x.isQueued
        image := gone.foldl (fun image x => releasedImage image x .discard) s.image }
    ((∃ x ∈ gone, x.mode = .change) → s.discardQueued = left.examineDraining) ∧
    ((∀ x ∈ gone, x.mode = .run) → s.discardQueued = left) := by
  intro gone left
  have discarded : s.discardQueued = if (queuedTxns s).any fun t => decide (t.mode = .change) then left.examineDraining else left := by
    rw [State.discardQueued, discards_eq_unqueued table]
  rw [discarded, queuedTxns_eq]
  constructor
  · rintro ⟨x, member, change⟩
    exact if_pos (List.any_eq_true.mpr ⟨x, member, decide_eq_true change⟩)
  · intro runs
    refine if_neg fun some_ => ?_
    obtain ⟨x, member, change⟩ := List.any_eq_true.mp some_
    exact absurd ((runs x member).symm.trans (of_decide_eq_true change)) (by decide)

/-- After a warm start the window is SHUT, so that a report closes nothing. -/
theorem beginWarmStart_report (t : Trigger) (n : Option (Fin 32)) (s : State) : s.beginWarmStart.report t n = s.beginWarmStart := by
  rw [State.report]
  split
  · exact closeWindow_other rfl
  · rfl

theorem linkDown_running {t : Nat} {p : Port} {order : LinkOrder} {s : State} (running : s.phase = .running) (later : s.now ≤ t) :
    exec (.linkDown t p order) s = if (s.port p).up then
        .next ((State.setPhy p false { s with now := t }).portDown p order)
      else .next (State.setPhy p false { s with now := t }) := by
  have runs : (State.setPhy p false { s with now := t }).phase = .running := by cases p <;> exact running
  simp only [exec, execLinkDown, clock_alive t s (alive_of_running running) later, runs]
  cases p <;> rfl

/-- Settles O42: the flush, then on L the discards and the report in their order, then the warm start of a lost reply. -/
theorem linkChangesAct : Obligations.LinkChangesAct := by
  unfold Obligations.LinkChangesAct
  refine ⟨fun w n c => satAdd_toNat n c, discardQueued_cases, fun t p order s running later => ?_⟩
  intro ps s1 count flushed lost
  have taken := linkDown_running (p := p) (order := order) running later
  have frames : ((State.setPhy p false s1).port p).allFrames = ps.allFrames := by cases p <;> rfl
  have flush : (State.setPhy p false s1).setPort p (((State.setPhy p false s1).port p).flush (State.setPhy p false s1).now) = flushed := by
    cases p <;> rfl
  have down (up : ps.up = true) : exec (.linkDown t p order) s = .next ((State.setPhy p false s1).portDown p order) :=
    taken.trans (if_pos up)
  refine ⟨fun up plain => ?_, fun up restarts => ?_, fun isDown => ?_, ?_⟩
  · have none_ : ps.allFrames.any (·.restart) = false := by simpa using plain
    rw [down up, State.portDown]
    simp only [frames, flush, none_]
    cases p <;> cases order <;> rfl
  · have some_ : ps.allFrames.any (·.restart) = true := List.any_eq_true.mpr restarts
    have restarted : exec (.linkDown t p order) s = .next (match p, order with
        | .P, _ => flushed.beginWarmStart
        | .L, .reportLast => flushed.discardQueued.beginWarmStart.report .link none
        | .L, .reportFirst => lost.beginWarmStart
        | .L, .discardsFirst => lost.beginWarmStart) := by
      rw [down up, State.portDown]
      simp only [frames, flush, some_]
      cases p <;> cases order <;> rfl
    refine ⟨fun plant => ?_, fun line last => ?_, fun line other => ?_⟩
    · subst plant
      exact restarted
    · subst line last
      rw [restarted, beginWarmStart_report]
    · subst line
      cases order with
      | reportLast => exact absurd rfl other
      | reportFirst | discardsFirst => exact restarted
  · exact (taken.trans (if_neg (by rw [isDown]; exact Bool.false_ne_true))).trans (by cases p <;> rfl)
  · have now : s.clock t = s1 := clock_alive t s (alive_of_running running) later
    have runs : (State.setPhy p true s1).phase = .running := by cases p <;> exact running
    simp only [exec, execLinkUp, now, runs]
    cases p <;> rfl

end Sys2Proof.Machine

/-! PROOFS. The vetting computation (R61 to R64): the reach of stage 3, and the outcome of the three stages. -/

namespace Sys2Proof.Machine

/-! ### Grid points about a value -/

theorem exists_floor {r : ParamRecord} (quantum : 1 ≤ r.quantum) (v : Int) : ∃ g, onGrid r g ∧ g ≤ v ∧ v < g + r.quantum := by
  have positive : (0 : Int) < r.quantum := by exact_mod_cast quantum
  have whole := Int.mul_ediv_add_emod (v - r.chgLo) r.quantum
  have least := Int.emod_nonneg (v - r.chgLo) positive.ne'
  have most := Int.emod_lt_of_pos (v - r.chgLo) positive
  refine ⟨r.chgLo + (v - r.chgLo) / r.quantum * r.quantum, ⟨_, rfl⟩, ?_, ?_⟩ <;> rw [Int.mul_comm] <;> omega

theorem onGrid_chgLo (r : ParamRecord) : onGrid r r.chgLo := ⟨0, by simp⟩

section
variable {r : ParamRecord} {c g : Int}

theorem reachTop_eq (grid : onGrid r g) (below : g ≤ c + r.stepUp) (above : c + r.stepUp < g + r.quantum) : reachTop r c = g :=
  (quotient_and_remainder_of_floor grid below above).2

/-- The ceiling is the floor of the value mirrored at the grid's origin. -/
theorem reachBottom_eq (grid : onGrid r g) (above : c - r.stepDown ≤ g) (below : g - r.quantum < c - r.stepDown) :
    reachBottom r c = g := by
  obtain ⟨k, rfl⟩ := grid
  have mirrored : onGrid r (r.chgLo + -k * r.quantum) := ⟨-k, rfl⟩
  have floor := (quotient_and_remainder_of_floor (v := r.chgLo + -(c - r.stepDown - r.chgLo)) mirrored (by linarith) (by linarith)).2
  rw [add_sub_cancel_left] at floor
  unfold reachBottom
  linarith

theorem onGrid_reachTop (r : ParamRecord) (c : Int) : onGrid r (reachTop r c) := ⟨_, rfl⟩

theorem onGrid_reachBottom (r : ParamRecord) (c : Int) : onGrid r (reachBottom r c) := ⟨_, rfl⟩

theorem le_reachTop (quantum : 1 ≤ r.quantum) (grid : onGrid r g) (reached : g ≤ c + r.stepUp) : g ≤ reachTop r c := by
  obtain ⟨top, gridTop, below, above⟩ := exists_floor quantum (c + r.stepUp)
  rw [reachTop_eq gridTop below above]
  have gap := onGrid_le_or_add_quantum_le gridTop grid
  omega

theorem reachBottom_le (quantum : 1 ≤ r.quantum) (grid : onGrid r g) (reached : c - r.stepDown ≤ g) : reachBottom r c ≤ g := by
  obtain ⟨low, gridLow, below, above⟩ := exists_floor quantum (c - r.stepDown - 1)
  have bottom := reachBottom_eq (g := low + r.quantum) (c := c) (onGrid_add_quantum gridLow) (by omega) (by omega)
  have gap := onGrid_le_or_add_quantum_le gridLow grid
  omega

end

/-! ### Stage 3 -/

theorem clampTo_between {lo hi v : Int} (least : lo ≤ v) (most : v ≤ hi) : clampTo lo hi v = v := by
  rw [clampTo, if_neg (Int.not_lt.mpr least), if_neg (Int.not_lt.mpr most)]

theorem clampTo_cases {lo hi : Int} (order : lo ≤ hi) (v : Int) :
    (v < lo ∧ clampTo lo hi v = lo) ∨ (hi < v ∧ clampTo lo hi v = hi) ∨ (lo ≤ v ∧ v ≤ hi ∧ clampTo lo hi v = v) := by
  unfold clampTo
  split_ifs with low high <;> omega

theorem clampTo_bounds {lo hi : Int} (order : lo ≤ hi) (v : Int) : lo ≤ clampTo lo hi v ∧ clampTo lo hi v ≤ hi := by
  rcases clampTo_cases order v with ⟨-, same⟩ | ⟨-, same⟩ | ⟨least, most, same⟩ <;> rw [same] <;> omega

theorem clampTo_eq_max {lo hi : Int} (order : lo ≤ hi) (v : Int) : clampTo lo hi v = max lo (min hi v) := by
  rcases clampTo_cases order v with ⟨low, same⟩ | ⟨high, same⟩ | ⟨least, most, same⟩ <;> rw [same] <;> omega

theorem onGrid_clampTo {r : ParamRecord} {lo hi v : Int} (gridLo : onGrid r lo) (gridHi : onGrid r hi) (gridV : onGrid r v) :
    onGrid r (clampTo lo hi v) := by
  unfold clampTo
  split_ifs
  exacts [gridLo, gridHi, gridV]

theorem onGrid_max {r : ParamRecord} {a b : Int} (ha : onGrid r a) (hb : onGrid r b) : onGrid r (max a b) := by
  rcases max_choice a b with same | same <;> rw [same] <;> assumption

theorem onGrid_min {r : ParamRecord} {a b : Int} (ha : onGrid r a) (hb : onGrid r b) : onGrid r (min a b) := by
  rcases min_choice a b with same | same <;> rw [same] <;> assumption

theorem stepLimit_unmade {r : ParamRecord} {mode : TxnMode} (ref : Option Int) (v : Int)
    (unmade : mode = .change ∨ r.stepLimits = false) : stepLimit r mode ref v = .ok v := by
  refine if_neg ?_
  rintro ⟨run, limits⟩
  rcases unmade with change | none_
  · exact absurd (run.symm.trans change) (by decide)
  · exact ne_false_of_eq_true limits none_

theorem stepLimit_made {r : ParamRecord} (limits : r.stepLimits = true) (c v : Int) : stepLimit r .run (some c) v =
    if min r.runHi (reachTop r c) < max r.runLo (reachBottom r c) then .error .outOfReach
    else .ok (clampTo (max r.runLo (reachBottom r c)) (min r.runHi (reachTop r c)) v) := if_pos ⟨rfl, limits⟩

/-- Settles O27: C and F are the grid points `reachTop` and `reachBottom` compute. -/
theorem stepLimitReachesGridPoints : Obligations.StepLimitReachesGridPoints := by
  unfold Obligations.StepLimitReachesGridPoints
  intro r mode ref v sound grid
  refine ⟨stepLimit_unmade ref v, fun run limits => ⟨fun none_ => ?_, ?_⟩⟩
  · rw [none_]
    exact if_pos ⟨run, limits⟩
  · intro c top bottom some_ gridTop belowTop aboveTop gridBottom aboveBottom belowBottom least most
    have made : stepLimit r mode ref v = if most < least then .error .outOfReach else .ok (clampTo least most v) := by
      rw [run, some_, stepLimit_made limits, reachTop_eq gridTop belowTop aboveTop, reachBottom_eq gridBottom aboveBottom belowBottom]
    refine ⟨fun empty => made.trans (if_pos empty), fun order => ⟨_, made.trans (if_neg (Int.not_lt.mpr order)), ?_⟩⟩
    obtain ⟨gridLo, gridHi, -⟩ := sound.grid
    have onIt := onGrid_clampTo (onGrid_max gridLo gridBottom) (onGrid_min gridHi gridTop) grid
    have bounds := clampTo_bounds order v
    have cases_ := clampTo_cases order v
    have lowest : r.runLo ≤ least := le_max_left _ _
    have highest : most ≤ r.runHi := min_le_left _ _
    refine ⟨fun low => ?_, fun high => ?_, clampTo_between, onIt, lowest.trans bounds.1, bounds.2.trans highest⟩ <;> omega

/-! ### The three stages -/

theorem ParamRecord.lo_eq (r : ParamRecord) (mode : TxnMode) : r.lo mode = if mode = .run then r.runLo else r.chgLo := by
  cases mode <;> rfl

theorem ParamRecord.hi_eq (r : ParamRecord) (mode : TxnMode) : r.hi mode = if mode = .run then r.runHi else r.chgHi := by
  cases mode <;> rfl

/-- The envelope in force has grid points as its bounds. -/
theorem RecordSound.envelope {r : ParamRecord} (sound : RecordSound r) (mode : TxnMode) :
    r.lo mode ≤ r.hi mode ∧ onGrid r (r.lo mode) ∧ onGrid r (r.hi mode) := by
  obtain ⟨gridLo, gridHi, gridChg⟩ := sound.grid
  obtain ⟨low, run, high⟩ := sound.order
  cases mode with
  | run => exact ⟨run, gridLo, gridHi⟩
  | change => exact ⟨(low.trans run).trans high, onGrid_chgLo r, gridChg⟩

/-- A value in the envelope of the mode and on the record's grid. -/
def ParamRecord.fits (r : ParamRecord) (mode : TxnMode) (w : Int) : Prop := r.lo mode ≤ w ∧ w ≤ r.hi mode ∧ onGrid r w

theorem fits_quantise {r : ParamRecord} (sound : RecordSound r) {mode : TxnMode} (ref : Option Int) {v : Int}
    (least : r.lo mode ≤ v) (most : v ≤ r.hi mode) : r.fits mode (quantise r ref v) := by
  obtain ⟨-, gridLo, gridHi⟩ := sound.envelope mode
  obtain ⟨g, grid, below, above⟩ := exists_floor sound.quantum v
  have between := quantise_between grid below above ref gridLo gridHi least most
  exact ⟨between.1, between.2, onGrid_quantise grid below above ref⟩

theorem quantise_of_onGrid {r : ParamRecord} (sound : RecordSound r) (ref : Option Int) {v : Int} (on : onGrid r v) :
    quantise r ref v = v := by
  obtain ⟨g, grid, below, above⟩ := exists_floor sound.quantum v
  exact by_contra fun alters => (quantise_ne_iff_not_onGrid grid below above ref).mp alters on

theorem fits_stepLimit {r : ParamRecord} (sound : RecordSound r) {mode : TxnMode} {ref : Option Int} {v w : Int}
    (fits : r.fits mode v) (limited : stepLimit r mode ref v = .ok w) : r.fits mode w := by
  by_cases unmade : mode = .change ∨ r.stepLimits = false
  · rw [stepLimit_unmade ref v unmade] at limited
    cases limited
    exact fits
  · obtain ⟨run, limits⟩ := not_or.mp unmade
    have run : mode = .run := by cases mode <;> first | rfl | exact absurd rfl run
    rw [Bool.not_eq_false] at limits
    subst run
    cases ref with
    | none =>
      rw [stepLimit, if_pos ⟨rfl, limits⟩] at limited
      cases limited
    | some c =>
      rw [stepLimit_made limits] at limited
      split at limited
      · cases limited
      · next order =>
        cases limited
        obtain ⟨gridLo, gridHi, -⟩ := sound.grid
        have bounds := clampTo_bounds (Int.not_lt.mp order) v
        exact ⟨(le_max_left _ _).trans bounds.1, bounds.2.trans (min_le_left _ _),
          onGrid_clampTo (onGrid_max gridLo (onGrid_reachBottom r c)) (onGrid_min gridHi (onGrid_reachTop r c)) fits.2.2⟩

/-- Stage 3 leaves a value of the envelope and the grid that it can reach. -/
theorem stepLimit_reached {r : ParamRecord} (sound : RecordSound r) {mode : TxnMode} {ref : Option Int} {v : Int}
    (fits : r.fits mode v)
    (reached : mode = .change ∨ r.stepLimits = false ∨ ∃ c, ref = some c ∧ c - r.stepDown ≤ v ∧ v ≤ c + r.stepUp) :
    stepLimit r mode ref v = .ok v := by
  by_cases unmade : mode = .change ∨ r.stepLimits = false
  · exact stepLimit_unmade ref v unmade
  · obtain ⟨run, limits⟩ := not_or.mp unmade
    obtain ⟨c, rfl, low, high⟩ := (reached.resolve_left run).resolve_left limits
    have run : mode = .run := by cases mode <;> first | rfl | exact absurd rfl run
    rw [Bool.not_eq_false] at limits
    subst run
    obtain ⟨least, most, grid⟩ := fits
    have bottom : max r.runLo (reachBottom r c) ≤ v := max_le least (reachBottom_le sound.quantum grid low)
    have top : v ≤ min r.runHi (reachTop r c) := le_min most (le_reachTop sound.quantum grid high)
    rw [stepLimit_made limits, if_neg (Int.not_lt.mpr (bottom.trans top)), clampTo_between bottom top]

/-- The first stage that altered a value whose outcome differs from it (R64). -/
theorem alteringStage_eq {v v1 v2 v3 : Int} (alters : v3 ≠ v) : alteringStage v v1 v2 v3 =
    some (if v1 ≠ v then .outsideEnvelope else if v2 ≠ v1 then .offGrid else .stepExceeded) := by
  unfold alteringStage
  split_ifs with first second third
  · rfl
  · rfl
  · rfl
  · push Not at first second third
    exact absurd (third.trans (second.trans first)) alters

section
variable {r : ParamRecord} {mode : TxnMode} {ref : Option Int} {rewrite : Bool} {v : Int}

theorem vetValue_refused {why : Reason}
    (refused : stepLimit r mode ref (quantise r ref (clampTo (r.lo mode) (r.hi mode) v)) = .error why) :
    vetValue r mode ref rewrite v = .refused why none none := by
  simp only [vetValue, refused]

theorem vetValue_unaltered
    (limited : stepLimit r mode ref (quantise r ref (clampTo (r.lo mode) (r.hi mode) v)) = .ok v) :
    vetValue r mode ref rewrite v = .unaltered v := by
  simp only [vetValue, limited, if_true]

theorem vetValue_altered {v3 : Int}
    (limited : stepLimit r mode ref (quantise r ref (clampTo (r.lo mode) (r.hi mode) v)) = .ok v3) (alters : v3 ≠ v) :
    let v1 := clampTo (r.lo mode) (r.hi mode) v
    let stage := if v1 ≠ v then Reason.outsideEnvelope else if quantise r ref v1 ≠ v1 then .offGrid else .stepExceeded
    vetValue r mode ref rewrite v = match r.policy, rewrite with
      | .clamp, true => .clamped v3 stage
      | .clamp, false => .refused .rewriteForbidden (some stage) (some v3)
      | .refuse, _ => .refused stage none (some v3) := by
  simp only [vetValue, limited, if_neg alters, alteringStage_eq alters]
  cases r.policy <;> cases rewrite <;> rfl

end

theorem fits_stages {r : ParamRecord} (sound : RecordSound r) {mode : TxnMode} {ref : Option Int} {v v3 : Int}
    (limited : stepLimit r mode ref (quantise r ref (clampTo (r.lo mode) (r.hi mode) v)) = .ok v3) : r.fits mode v3 := by
  have first := clampTo_bounds (sound.envelope mode).1 v
  exact fits_stepLimit sound (fits_quantise sound ref first.1 first.2) limited

section
variable {r : ParamRecord} (sound : RecordSound r) {mode : TxnMode} {ref : Option Int} {rewrite : Bool} {v w : Int}
include sound

theorem fits_of_unaltered (unaltered : vetValue r mode ref rewrite v = .unaltered w) : w = v ∧ r.fits mode w := by
  cases limited : stepLimit r mode ref (quantise r ref (clampTo (r.lo mode) (r.hi mode) v)) with
  | error why =>
    rw [vetValue_refused limited] at unaltered
    cases unaltered
  | ok v3 =>
    by_cases same : v3 = v
    · subst same
      rw [vetValue_unaltered limited] at unaltered
      cases unaltered
      exact ⟨rfl, fits_stages sound limited⟩
    · rw [vetValue_altered limited same] at unaltered
      split at unaltered <;> cases unaltered

theorem fits_of_clamped {stage : Reason} (clamped : vetValue r mode ref rewrite v = .clamped w stage) :
    w ≠ v ∧ r.fits mode w ∧ r.policy = .clamp ∧ rewrite = true := by
  cases limited : stepLimit r mode ref (quantise r ref (clampTo (r.lo mode) (r.hi mode) v)) with
  | error why =>
    rw [vetValue_refused limited] at clamped
    cases clamped
  | ok v3 =>
    by_cases same : v3 = v
    · subst same
      rw [vetValue_unaltered limited] at clamped
      cases clamped
    · rw [vetValue_altered limited same] at clamped
      split at clamped <;> cases clamped
      next policy => exact ⟨same, fits_stages sound limited, policy, rfl⟩

end

/-- Settles O28: the outcome of stage 3 decides between the cases, and what it admits fits the envelope and the grid. -/
theorem vettedValueInEnvelopeOnGrid : Obligations.VettedValueInEnvelopeOnGrid := by
  unfold Obligations.VettedValueInEnvelopeOnGrid
  intro r mode ref rewrite v sound inside
  have order := (sound.envelope mode).1
  have insideEq (w : Int) : inside w ↔ r.fits mode w := by
    simp only [inside, ParamRecord.fits, r.lo_eq, r.hi_eq]
  refine ⟨fun w unaltered => ?_, fun w stage clamped => ?_, fun fits reached => ?_, ?_⟩
  · rw [insideEq]
    exact fits_of_unaltered sound unaltered
  · rw [insideEq]
    exact fits_of_clamped sound clamped
  · rw [insideEq] at fits
    have firstSame : clampTo (r.lo mode) (r.hi mode) v = v := clampTo_between fits.1 fits.2.1
    refine vetValue_unaltered ?_
    rw [firstSame, quantise_of_onGrid sound ref fits.2.2, stepLimit_reached sound fits reached]
  · intro v1 v2 stage
    have firstSame : clampTo (r.lo mode) (r.hi mode) v = v1 := by rw [clampTo_eq_max order, r.lo_eq, r.hi_eq]
    refine ⟨fun why refused => vetValue_refused (by rw [firstSame]; exact refused), fun v3 limited => ⟨fun same => ?_, fun alters => ?_⟩⟩
    · refine vetValue_unaltered ?_
      rw [firstSame]
      exact limited.trans (congrArg _ same)
    · have outcome := vetValue_altered (rewrite := rewrite) (by rw [firstSame]; exact limited) alters
      rw [firstSame] at outcome
      exact outcome

end Sys2Proof.Machine

/-! PROOFS. The frame verdict (R58, R65 to R70). -/

namespace Sys2Proof.Machine

/-! ### Step 4 -/

/-- The first refusal in index order is the answer of step 4. -/
theorem vetItems_refused {s : State} {w : WriteRequest} {mode : TxnMode} {raws : List Nat} {k i raw : Nat} {e : Refused}
    (at_ : raws[i]? = some raw) (refused : vetItem s w mode (k + i) raw = .error e)
    (earlier : ∀ j raw', j < i → raws[j]? = some raw' → ∃ l, vetItem s w mode (k + j) raw' = .ok l) :
    vetItems s w mode raws k = .error e := by
  induction raws generalizing k i with
  | nil => cases at_
  | cons x rest ih =>
    rw [vetItems]
    cases i with
    | zero =>
      cases at_
      rw [Nat.add_zero] at refused
      rw [refused]
    | succ i =>
      obtain ⟨l, first⟩ := earlier 0 x (Nat.succ_pos i) rfl
      rw [Nat.add_zero] at first
      have others : vetItems s w mode rest (k + 1) = .error e := by
        refine ih at_ (by rwa [Nat.add_assoc, Nat.add_comm 1]) fun j raw' less at_j => ?_
        rw [Nat.add_assoc, Nat.add_comm 1]
        exact earlier (j + 1) raw' (Nat.succ_lt_succ less) at_j
      rw [first]
      simp only [others]

/-- Step 4 answers a list only where it admits every value. -/
theorem vetItems_admits {s : State} {w : WriteRequest} {mode : TxnMode} {raws : List Nat} {k : Nat} {listed : List Listed}
    (all : vetItems s w mode raws k = .ok listed) {i raw : Nat} (at_ : raws[i]? = some raw) :
    ∃ x, vetItem s w mode (k + i) raw = .ok x := by
  induction raws generalizing k i listed with
  | nil => cases at_
  | cons y rest ih =>
    rw [vetItems] at all
    split at all
    · cases all
    · next item first =>
      split at all
      · cases all
      · next items more =>
        cases i with
        | zero =>
          cases at_
          exact ⟨item, first⟩
        | succ i =>
          obtain ⟨x, later⟩ := ih more at_
          exact ⟨x, by rwa [Nat.add_assoc, Nat.add_comm 1] at later⟩

theorem lookup_eq_none {b : Bank} {k : Key} (unlisted : ∀ (slot : Fin 512) (r : ParamRecord), b[slot] = some r → r.key ≠ k) :
    lookup b k = none := by
  cases found : lookup b k with
  | none => rfl
  | some x =>
    obtain ⟨holds, key⟩ := lookup_some b k x.1 x.2 found
    exact absurd key (unlisted x.1 x.2 holds)

theorem lookup_eq_some {b : Bank} (sound : BankSound b) {k : Key} {slot : Fin 512} {r : ParamRecord} (holds : b[slot] = some r)
    (key : r.key = k) : lookup b k = some (slot, r) := by
  cases found : lookup b k with
  | none => exact absurd key (lookup_none b k found slot r holds)
  | some x =>
    obtain ⟨slot', r'⟩ := x
    obtain ⟨holds', key'⟩ := lookup_some b k slot' r' found
    obtain rfl := sound.keys slot slot' r r' holds holds' (key.trans key'.symm)
    rw [holds, Option.some.injEq] at holds'
    rw [holds']

theorem unlistedAdmitted_iff (u : UnlistedVerdict) (mode : TxnMode) : unlistedAdmitted u mode = true ↔
    u = .pass ∨ u = .window ∧ mode = .change := by
  cases u <;> cases mode <;> decide

section
variable {s : State} {w : WriteRequest} {mode : TxnMode} {i raw : Nat}

theorem vetItem_unlisted (unlisted : lookup s.settings.activeBank (w.key i) = none) :
    vetItem s w mode i raw = if unlistedAdmitted (s.station w.station).policies[w.area].unlisted mode then .ok none
      else .error (refuseValue (w.key i) .areaClosed none 3 (some raw) none) := by
  simp only [vetItem, unlisted]

section
variable {slot : Fin 512} {r : ParamRecord} (found : lookup s.settings.activeBank (w.key i) = some (slot, r))
include found

theorem vetItem_busy {c : Option Int} {p : Int} {t : TxnRef} (pending : s.image[slot] = .pending c p t) :
    vetItem s w mode i raw = .error (refuseValue (w.key i) .parameterBusy none r.criticality (some raw) none) := by
  simp only [vetItem, found, pending]

theorem vetItem_misfit (settled : ∀ c p t, s.image[slot] ≠ .pending c p t) (misfits : kindOctets r.kind ≠ w.profile.valueWidth.toNat) :
    vetItem s w mode i raw = .error (refuseValue (w.key i) .malformed none r.criticality (some raw) none) := by
  have width := (Kind.interpret_width r.kind raw).1
  simp only [vetItem, found]
  split
  · next c p t pending => exact absurd pending (settled c p t)
  all_goals rw [if_pos (by rwa [width])]

theorem vetItem_vetted (settled : ∀ c p t, s.image[slot] ≠ .pending c p t) (fits : kindOctets r.kind = w.profile.valueWidth.toNat) :
    vetItem s w mode i raw =
      match vetValue r mode s.image[slot].reference w.profile.rewritePermitted (kindReads r.kind (kindOctets r.kind) raw) with
      | .unaltered v3 => .ok (some ⟨i, slot, r.kind, kindReads r.kind (kindOctets r.kind) raw, v3, none⟩)
      | .clamped v3 stage => .ok (some ⟨i, slot, r.kind, kindReads r.kind (kindOctets r.kind) raw, v3, some stage⟩)
      | .refused why stage v3 =>
        .error (refuseValue (w.key i) why stage r.criticality (some (kindReads r.kind (kindOctets r.kind) raw)) v3) := by
  obtain ⟨width, reads⟩ := Kind.interpret_width r.kind raw
  have sameWidth : w.profile.valueWidth.toNat = r.kind.width := fits.symm.trans width.symm
  simp only [vetItem, found]
  split
  · next c p t pending => exact absurd pending (settled c p t)
  all_goals
    rw [if_neg (not_not.mpr sameWidth.symm)]
    simp only [sameWidth, reads] <;> rfl

end

/-- What a listed value carries onward fits the envelope of the mode and the grid of its record (R64). -/
theorem vetItem_value (sound : BankSound s.settings.activeBank) {l : Listed} (listed : vetItem s w mode i raw = .ok (some l)) :
    ∃ r, s.settings.activeBank[l.slot] = some r ∧ r.fits mode l.value ∧ (l.stage = none → l.value = l.requested) := by
  cases found : lookup s.settings.activeBank (w.key i) with
  | none =>
    rw [vetItem_unlisted found] at listed
    split at listed <;> cases listed
  | some x =>
    obtain ⟨slot, r⟩ := x
    obtain ⟨holds, -⟩ := lookup_some _ _ _ _ found
    have record := sound.records slot r holds
    by_cases pending : ∃ c p t, s.image[slot] = .pending c p t
    · obtain ⟨c, p, t, pending⟩ := pending
      rw [vetItem_busy found pending] at listed
      cases listed
    · push Not at pending
      by_cases width : kindOctets r.kind = w.profile.valueWidth.toNat
      · rw [vetItem_vetted found pending width] at listed
        split at listed <;> cases listed
        · next unaltered =>
          obtain ⟨same, fits⟩ := fits_of_unaltered record unaltered
          exact ⟨r, holds, fits, fun _ => same⟩
        · next clamped => exact ⟨r, holds, (fits_of_clamped record clamped).2.1, fun none_ => absurd none_ (Option.some_ne_none _)⟩
      · rw [vetItem_misfit found pending width] at listed
        cases listed

end

/-! ### Steps 5 and 6 -/

section
variable {s : State} {r : TxnRef} {listed : List Listed}

theorem trackingCheck_used (some_ : listed ≠ []) (used : ∃ t ∈ s.txns, t.ref = r) : trackingCheck s r listed = some .tagInUse := by
  obtain ⟨l, rest, rfl⟩ := List.exists_cons_of_ne_nil some_
  exact if_pos (by simpa using used)

theorem trackingCheck_full (some_ : listed ≠ []) (free : ¬ ∃ t ∈ s.txns, t.ref = r) (full : 64 ≤ s.txns.length) :
    trackingCheck s r listed = some .tableFull := by
  obtain ⟨l, rest, rfl⟩ := List.exists_cons_of_ne_nil some_
  exact (if_neg (by simpa using free)).trans (if_pos full)

theorem trackingCheck_passed (passes : listed ≠ [] → (¬ ∃ t ∈ s.txns, t.ref = r) ∧ s.txns.length < 64) :
    trackingCheck s r listed = none := by
  cases listed with
  | nil => rfl
  | cons l rest =>
    obtain ⟨free, room⟩ := passes (List.cons_ne_nil l rest)
    exact (if_neg (by simpa using free)).trans (if_neg (Nat.not_le.mpr room))

end

theorem lineRoom_iff (s : State) : lineRoom s = true ↔ s.portL.up = true ∧ s.portL.ordinary.length < 64 := accepts_iff s.portL .ordinary

/-- Settles O29: each step by its own lemma, in the order of R65. -/
theorem frameVerdictChecksInOrder : Obligations.FrameVerdictChecksInOrder := by
  unfold Obligations.FrameVerdictChecksInOrder
  refine ⟨fun s n => ⟨fun service => ?_, fun normal opened member => ?_, fun normal other => ?_⟩, ?_⟩
  · simp only [vettingMode, service]
  · simp only [vettingMode, normal, opened, member, Bool.and_self, if_true]
  · simp only [vettingMode, normal]
    refine if_neg fun both => ?_
    obtain ⟨opened, member⟩ := Bool.and_eq_true_iff.mp both
    rcases other with closed | outside
    · exact ne_false_of_eq_true opened closed
    · exact ne_false_of_eq_true member outside
  intro s w sound quarantined mode refused
  have vetted (usable : ¬ quarantined) : frameVerdict s w = match vetItems s w mode w.raws 0 with
      | .error e => .error e
      | .ok listed => match trackingCheck s ⟨w.station, w.tag⟩ listed with
        | some why => .error (refused why)
        | none => if lineRoom s then .ok ⟨mode, listed⟩ else .error (refused .egressFull) := if_neg usable
  refine ⟨fun held => if_pos held, fun i raw e usable at_ failing earlier => ?_, fun listed usable all => ?_, fun listed all => ?_,
    fun every => ?_, fun i raw => ?_, fun a admitted => ?_⟩
  · rw [vetted usable, vetItems_refused at_ (by rwa [Nat.zero_add]) fun j raw' less at_j => by
      rw [Nat.zero_add]; exact earlier j raw' less at_j]
  · have verdict : frameVerdict s w = match trackingCheck s ⟨w.station, w.tag⟩ listed with
        | some why => .error (refused why)
        | none => if lineRoom s then .ok ⟨mode, listed⟩ else .error (refused .egressFull) := by rw [vetted usable, all]
    refine ⟨fun some_ used => ?_, fun some_ free full => ?_, fun free => ?_⟩
    · rw [verdict, trackingCheck_used some_ used]
    · rw [verdict, trackingCheck_full some_ free full]
    · have passes : frameVerdict s w = if lineRoom s then .ok ⟨mode, listed⟩ else .error (refused .egressFull) := by
        rw [verdict, trackingCheck_passed free]
      refine ⟨fun closed => passes.trans (if_neg ?_), fun up room => passes.trans (if_pos ((lineRoom_iff s).mpr ⟨up, room⟩))⟩
      rw [lineRoom_iff]
      rintro ⟨up, room⟩
      rcases closed with down | full
      · exact ne_false_of_eq_true up down
      · omega
  · have exactly := vetItems_ok s w mode w.raws 0 listed all
    simpa only [Nat.zero_add] using exactly
  · exact vetItems_complete s w mode w.raws 0 (by simpa only [Nat.zero_add] using every)
  · intro unlisted open_ key
    have admits : unlistedAdmitted unlisted mode = true ↔ open_ := unlistedAdmitted_iff unlisted mode
    refine ⟨fun none_ => ⟨fun isOpen => ?_, fun closed => ?_⟩, ?_⟩
    · rw [vetItem_unlisted (lookup_eq_none none_)]
      exact if_pos (admits.mpr isOpen)
    · rw [vetItem_unlisted (lookup_eq_none none_)]
      exact if_neg (mt admits.mp closed)
    · intro slot r holds named v
      have found := lookup_eq_some sound holds named
      refine ⟨?_, fun ref settled => ?_⟩
      · rintro ⟨c, p, t, pending⟩
        exact vetItem_busy found pending
      · have unpending : ∀ c p t, s.image[slot] ≠ .pending c p t := by
          intro c p t pending
          rcases settled with ⟨unknown, -⟩ | ⟨k, known, -⟩
          · rw [unknown] at pending
            cases pending
          · rw [known] at pending
            cases pending
        have reference : s.image[slot].reference = ref := by
          rcases settled with ⟨unknown, rfl⟩ | ⟨k, known, rfl⟩
          · rw [unknown]
            rfl
          · rw [known]
            rfl
        refine ⟨vetItem_misfit found unpending, fun fits => ?_⟩
        rw [vetItem_vetted found unpending fits, reference] <;> rfl
  · obtain ⟨-, sameMode, all, -, -⟩ := frameVerdict_ok admitted
    rw [sameMode] at all
    obtain ⟨-, exactly⟩ := vetItems_ok s w mode w.raws 0 a.listed all
    refine ⟨sameMode, all, fun l member => ?_, fun i raw slot r at_ holds named => ?_⟩
    · obtain ⟨i, raw, at_, item⟩ := (exactly l).mp member
      obtain ⟨r, holds, named, kind, requested⟩ := vetItem_record s w mode _ raw l sound item
      obtain ⟨r', holds', ⟨least, most, grid⟩, unstaged⟩ := vetItem_value sound item
      obtain rfl : r' = r := Option.some.inj (holds'.symm.trans holds)
      have position := vetItem_position _ _ _ _ _ _ item
      rw [Nat.zero_add] at position
      rw [r'.lo_eq] at least
      rw [r'.hi_eq] at most
      exact ⟨r', raw, holds, named, position ▸ at_, kind, requested, grid, least, most, unstaged⟩
    · obtain ⟨x, item⟩ := vetItems_admits all at_
      obtain ⟨l, rfl, position, atSlot, kind, requested⟩ := vetItem_listed s w mode _ raw slot r sound holds
        (by rwa [Nat.zero_add]) x item
      rw [Nat.zero_add] at position
      exact ⟨l, (exactly l).mpr ⟨i, raw, at_, item⟩, position, atSlot, kind, requested⟩

end Sys2Proof.Machine

/-! PROOFS. The classifier: the parts of a frame and its arrival checks (R2, R3), class and role (R11, R12), the malformed checks
(R13, R14), and the routing of frames that are not vetted, gated or offered to a table (R10, R15, R17, R34, R35). -/

namespace Sys2Proof.Machine

/-! ### The arrival checks -/

section
variable {st : Settings} {own : Mac} {port : Port} {f : List Octet}

theorem classifyArrival_fcs (bad : fcsGood f = false) : classifyArrival st own port f = .fcsError := if_pos bad

theorem classifyArrival_length (good : fcsGood f = true) (misfits : f.length < 64 ∨ 1522 < f.length) :
    classifyArrival st own port f = .lengthError := (if_neg (ne_false_of_eq_true good)).trans (if_pos misfits)

theorem classifyArrival_flow (good : fcsGood f = true) (fits : ¬ (f.length < 64 ∨ 1522 < f.length)) (flow : frameType f = 0x8808#16) :
    classifyArrival st own port f = .flowControl :=
  (if_neg (ne_false_of_eq_true good)).trans ((if_neg fits).trans (if_pos flow))

theorem classifyArrival_accepted (good : fcsGood f = true) (fits : ¬ (f.length < 64 ∨ 1522 < f.length)) (other : frameType f ≠ 0x8808#16) :
    classifyArrival st own port f = classifyAccepted st own port f :=
  (if_neg (ne_false_of_eq_true good)).trans ((if_neg fits).trans (if_neg other))

theorem classifyAccepted_management (addressed : frameDestination f = own) (type : frameType f = st.managementType) :
    classifyAccepted st own port f = .management := (if_pos addressed).trans (if_pos type)

theorem classifyAccepted_stray (addressed : frameDestination f = own) (type : frameType f ≠ st.managementType) :
    classifyAccepted st own port f = .stray := (if_pos addressed).trans (if_neg type)

theorem classifyAccepted_matched {i : Fin 4} (elsewhere : frameDestination f ≠ own)
    (matched : matchProfile st (frameType f) (payload f) = some i) : classifyAccepted st own port f = classifyMatched st port f i := by
  rw [classifyAccepted, if_neg elsewhere, matched]

end

/-! ### Class and role -/

theorem classify_listed {p : Profile} {e : MapEntry} (member : e ∈ p.functionMap) (distinct : (p.functionMap.map (·.code)).Nodup) :
    p.classify e.code = (e.cls, e.role) := by
  have some_ : (p.functionMap.find? fun x => decide (x.code = e.code)).isSome = true :=
    List.find?_isSome.mpr ⟨e, member, decide_eq_true rfl⟩
  obtain ⟨x, found⟩ := Option.isSome_iff_exists.mp some_
  have same : x = e := List.inj_on_of_nodup_map distinct (List.mem_of_find?_eq_some found) member
    (by simpa using List.find?_some found)
  simp only [Profile.classify, found, same]

theorem classify_unlisted {p : Profile} {code : Octet} (unlisted : ∀ e ∈ p.functionMap, e.code ≠ code) :
    p.classify code = (.other, .request) := by
  have none_ : (p.functionMap.find? fun x => decide (x.code = code)) = none :=
    List.find?_eq_none.mpr fun x member named => unlisted x member (of_decide_eq_true named)
  simp only [Profile.classify, none_]

/-! ### Fields -/

theorem hasField_iff (pl : List Octet) (offset : Word16) (n : Nat) : hasField pl offset n = true ↔ offset.toNat + n ≤ pl.length :=
  decide_eq_true_iff

theorem Profile.hasTag_iff (p : Profile) (pl : List Octet) : p.hasTag pl = true ↔
    ∃ t, p.tagField = some t ∧ t.offset.toNat + t.width.toNat ≤ pl.length := by
  unfold Profile.hasTag
  cases p.tagField with
  | none => simp
  | some t => simp [hasField_iff]

section
variable {p : Profile} {pl : List Octet} (order : p.byteOrder ≠ none)

theorem Profile.values_length (p : Profile) (pl : List Octet) : (p.values pl).length = p.count pl := by simp [Profile.values]

include order

theorem Profile.index_eq (inside : p.indexOffset.toNat + 2 ≤ pl.length) : p.index pl = p.reads pl p.indexOffset.toNat 2 :=
  p.number_slice pl _ 2 order inside

theorem Profile.tag_eq {x : TagField} (has : p.tagField = some x) (inside : x.offset.toNat + x.width.toNat ≤ pl.length) :
    p.tag pl = BitVec.ofNat 16 (p.reads pl x.offset.toNat x.width.toNat) := by
  simp only [Profile.tag, has, Profile.field, p.number_slice pl _ _ order inside]

theorem Profile.values_getElem {i : Nat} (bound : i < p.count pl)
    (inside : p.firstValueOffset.toNat + (i + 1) * p.valueWidth.toNat ≤ pl.length) :
    (p.values pl)[i]? = some (p.reads pl (p.firstValueOffset.toNat + i * p.valueWidth.toNat) p.valueWidth.toNat) := by
  rw [Nat.succ_mul, ← Nat.add_assoc] at inside
  simp only [Profile.values, List.getElem?_map, List.getElem?_range bound, Option.map_some, p.number_slice pl _ _ order inside]

end

/-! ### The malformed checks -/

/-- The header fields that R13 and R14 name for a class and role. -/
def headerFields (p : Profile) (pl : List Octet) (c : FrameClass) (r : Role) : Prop :=
  let has := fun (o : Word16) (k : Nat) => o.toNat + k ≤ pl.length
  let hasTag := ∃ t, p.tagField = some t ∧ has t.offset t.width.toNat
  let addressed := has p.areaOffset 1 ∧ has p.indexOffset 2 ∧ has p.countOffset 1
  match c, r with
  | .write, .request => hasTag ∧ addressed
  | .read, .request => addressed
  | .read, .reply => has p.statusOffset 1 ∧ addressed
  | .write, .reply => hasTag ∧ has p.statusOffset 1
  | _, _ => True

theorem headerPresent_iff (p : Profile) (pl : List Octet) (c : FrameClass) (r : Role) :
    headerPresent p pl c r = true ↔ headerFields p pl c r := by
  cases c <;> cases r <;> simp [headerPresent, headerFields, hasField_iff, p.hasTag_iff, and_assoc]

theorem addressesIndices_iff (c : FrameClass) (r : Role) : addressesIndices c r = true ↔ (c = .write ∧ r = .request) ∨ c = .read := by
  cases c <;> cases r <;> decide

theorem carriesValues_iff (c : FrameClass) (r : Role) :
    carriesValues c r = true ↔ (c = .write ∧ r = .request) ∨ (c = .read ∧ r = .reply) := by
  cases c <;> cases r <;> decide

theorem countLimit_eq {c : FrameClass} {r : Role} (indexed : (c = .write ∧ r = .request) ∨ c = .read) :
    countLimit c r = if c = .write then 8 else 64 := by
  rcases indexed with ⟨rfl, rfl⟩ | rfl
  · rfl
  · cases r <;> rfl

/-! ### A frame of a matched profile -/

theorem classifyMatched_short {st : Settings} {port : Port} {f : List Octet} {i : Fin 4}
    (short : (payload f).length ≤ st.profiles[i].functionOffset.toNat) : classifyMatched st port f i = .malformed none .truncated := by
  refine if_neg ?_
  rw [hasField_iff]
  omega

/-- The address a frame is identified by: the destination of a request, the source of a reply (R16). -/
def identifyingAddress : Port → List Octet → Mac
  | .P => frameDestination
  | .L => frameSource

theorem identifiedClass_iff (port : Port) (c : FrameClass) : identifiedClass port c = true ↔
    c = .read ∨ c = .write ∨ (port = .P ∧ (c = .control ∨ c = .program)) := by
  cases port <;> cases c <;> decide

section
variable {st : Settings} {port : Port} {f : List Octet} {i : Fin 4} {c : FrameClass} {r : Role}
  (has : st.profiles[i].functionOffset.toNat < (payload f).length)
  (classified : st.profiles[i].classify (octetAt (payload f) st.profiles[i].functionOffset.toNat) = (c, r))
include has classified

theorem classifyMatched_unexamined (unexamined : r ≠ examinedRole port) : classifyMatched st port f i = .unexamined c := by
  have hasCode : hasField (payload f) st.profiles[i].functionOffset 1 = true := (hasField_iff _ _ _).mpr has
  simp only [classifyMatched, hasCode, classified, if_true]
  cases port <;> cases r <;> first | rfl | exact absurd rfl unexamined

theorem classifyMatched_examined (examined : r = examinedRole port) : classifyMatched st port f i =
    match malformation st.profiles[i] f.length (payload f) c r with
    | some cause => .malformed (some c) cause
    | none =>
      if identifiedClass port c then
        match identify st i (identifyingAddress port f) (payload f) with
        | some n => .identified c i n
        | none => .unknownStation c
      else .plain c := by
  have hasCode : hasField (payload f) st.profiles[i].functionOffset 1 = true := (hasField_iff _ _ _).mpr has
  subst examined
  simp only [classifyMatched, hasCode, classified, if_true]
  cases port <;> rfl

end

/-- Settles O33: each check by its place in the chain, and a frame of a matched profile by its class and role. -/
theorem malformedChecksInOrder : Obligations.MalformedChecksInOrder := by
  unfold Obligations.MalformedChecksInOrder
  refine ⟨fun st own port f => ?_, fun p code => ⟨fun e member distinct same => same ▸ classify_listed member distinct, classify_unlisted⟩,
    fun p pl => ⟨rfl, rfl, rfl, p.values_length pl, fun order => ⟨p.index_eq order, fun x => p.tag_eq order, fun i => p.values_getElem order⟩⟩,
    fun st port f i => ?_, fun p n pl c r => ?_⟩
  · intro a short
    refine ⟨classifyArrival_fcs, classifyArrival_length, classifyArrival_flow, fun good fits other => ?_⟩
    have accepted : a = classifyAccepted st own port f := classifyArrival_accepted good fits other
    rw [accepted]
    exact ⟨classifyAccepted_management, classifyAccepted_stray,
      fun elsewhere => (classifyAccepted_foreign_iff st own port f elsewhere).mpr, fun i => classifyAccepted_matched⟩
  · intro p pl fc a
    refine ⟨classifyMatched_short, fun c r has classified => ?_⟩
    intro examined sought address
    have examinedEq : examined ↔ r = examinedRole port := by
      change port = .P ∧ r = .request ∨ port = .L ∧ r = .reply ↔ _
      cases port <;> cases r <;> decide
    refine ⟨fun unexamined => classifyMatched_unexamined has classified (mt examinedEq.mpr unexamined), fun isExamined => ?_⟩
    have found := classifyMatched_examined has classified (examinedEq.mp isExamined)
    constructor
    · intro cause
      change classifyMatched st port f i = _ ↔ _
      rw [found]
      cases malformation p f.length pl c r with
      | some why => simp
      | none =>
        simp only [reduceCtorEq, iff_false]
        split_ifs
        · split <;> simp
        · simp
    · intro wellFormed
      have sorted : a = if identifiedClass port c then
          match identify st i address pl with
          | some n => .identified c i n
          | none => .unknownStation c
        else .plain c := by
        have same : identifyingAddress port f = address := by cases port <;> rfl
        change classifyMatched st port f i = _
        rw [found, wellFormed, same]
      refine ⟨fun unsought => sorted.trans (if_neg (mt (identifiedClass_iff port c).mp unsought)), fun isSought none_ => ?_,
        fun n isSought some_ => ?_⟩
      · rw [sorted, if_pos ((identifiedClass_iff port c).mpr isSought), none_]
      · rw [sorted, if_pos ((identifiedClass_iff port c).mpr isSought), some_]
  · intro long has hasTag addressed header indexed most valued short
    have headerEq : headerPresent p pl c r = true ↔ header := headerPresent_iff p pl c r
    have indexedEq : addressesIndices c r = true ↔ indexed := addressesIndices_iff c r
    have valuedEq : carriesValues c r = true ↔ valued := carriesValues_iff c r
    refine ⟨fun isLong => if_pos isLong, fun fits absent => ?_, fun fits present unindexed => ?_, fun fits present isIndexed => ?_⟩
    · exact (if_neg fits).trans (if_pos (Bool.eq_false_iff.mpr (mt headerEq.mp absent)))
    all_goals have checked : headerPresent p pl c r ≠ false := ne_false_of_eq_true (headerEq.mpr present)
    · exact (if_neg fits).trans ((if_neg checked).trans (if_pos (Bool.eq_false_iff.mpr (mt indexedEq.mp unindexed))))
    · have limit : countLimit c r = most := countLimit_eq isIndexed
      have rest : malformation p n pl c r = if 15 < p.area pl then some .area
          else if p.count pl = 0 ∨ most < p.count pl then some .count
          else if 65535 < p.index pl + p.count pl - 1 then some .indexRange
          else if carriesValues c r ∧ short then some .truncated
          else none := by
        rw [malformation, if_neg fits, if_neg checked, if_neg (ne_false_of_eq_true (indexedEq.mpr isIndexed)), limit]
      refine ⟨fun above => rest.trans (if_pos above), fun area bad => rest.trans ((if_neg (Nat.not_lt.mpr area)).trans (if_pos bad)),
        fun area some_ few => ?_⟩
      have counted : malformation p n pl c r = if 65535 < p.index pl + p.count pl - 1 then some .indexRange
          else if carriesValues c r ∧ short then some .truncated else none :=
        rest.trans ((if_neg (Nat.not_lt.mpr area)).trans (if_neg (by omega)))
      refine ⟨fun beyond => counted.trans (if_pos (by omega)), fun inRange => ?_⟩
      have ranged := counted.trans (if_neg (by omega))
      exact ⟨fun isShort => ranged.trans (if_pos (isShort.imp_left valuedEq.mpr)),
        fun complete => ranged.trans (if_neg (mt (And.imp_left valuedEq.mp) complete))⟩

/-! ### The routing of an arrival -/

/-- A frame that is no management request is routed by what the classifier finds it to be. -/
theorem exec_arrival {t : Nat} {p : Port} {f : List Octet} {s : State} {a : Arrival} (ready : s.ready p t)
    (found : classifyArrival s.settings s.identity.address p f = a) (other : a ≠ .management) :
    exec (.frameArrival t p true f) s = .next ({ s with now := t }.routeArrival p f a) := by
  obtain ⟨now, receives⟩ := clock_ready p t s ready
  rw [now] at receives
  simp only [exec, execFrameArrival, now, receives, found, Bool.and_self, if_true]

/-- A frame that is not received changes nothing but the present time. -/
theorem exec_arrival_unreceived {t : Nat} {p : Port} {whole : Bool} {f : List Octet} {s : State}
    (unreceived : ((s.clock t).receives p && whole) = false) : exec (.frameArrival t p whole f) s = .next (s.clock t) := by
  simp only [exec, execFrameArrival, unreceived, Bool.false_eq_true, if_false]

/-- A station is sought only for the classes identified in the frame's direction (R16, R17). -/
theorem classifyMatched_unknown {st : Settings} {port : Port} {f : List Octet} {c : FrameClass} {i : Fin 4}
    (found : classifyMatched st port f i = .unknownStation c) : identifiedClass port c = true := by
  rcases classified : st.profiles[i].classify (octetAt (payload f) st.profiles[i].functionOffset.toNat) with ⟨x, r⟩
  by_cases has : st.profiles[i].functionOffset.toNat < (payload f).length
  · by_cases examined : r = examinedRole port
    · rw [classifyMatched_examined has classified examined] at found
      split at found
      · cases found
      · split at found
        · next sought =>
          split at found <;> cases found
          exact sought
        · cases found
    · rw [classifyMatched_unexamined has classified examined] at found
      cases found
  · rw [classifyMatched_short (Nat.not_lt.mp has)] at found
    cases found

theorem classifyArrival_unknown {st : Settings} {own : Mac} {port : Port} {f : List Octet} {c : FrameClass}
    (found : classifyArrival st own port f = .unknownStation c) : identifiedClass port c = true := by
  unfold classifyArrival at found
  split_ifs at found
  unfold classifyAccepted at found
  split_ifs at found
  split at found
  · cases found
  · exact classifyMatched_unknown found

theorem frameType_eq (f : List Octet) :
    (frameType f).toNat = beNat (slice f (if beNat (slice f 12 2) = 0x8100 then 16 else 12) 2) ∧
    (frameTci f).map (·.toNat) = (if beNat (slice f 12 2) = 0x8100 then some (beNat (slice f 14 2)) else none) ∧
    headerLength f = (if beNat (slice f 12 2) = 0x8100 then 16 else 12) + 2 := by
  have tagged : isTagged f = true ↔ beNat (slice f 12 2) = 0x8100 := by
    rw [isTagged, decide_eq_true_iff, word16At_eq_iff, eq_comm]
    rfl
  by_cases vlan : beNat (slice f 12 2) = 0x8100
  · simp only [frameType, frameTci, headerLength, if_pos vlan, if_pos (tagged.mpr vlan), word16At_toNat, Option.map_some, and_self]
  · simp only [frameType, frameTci, headerLength, if_neg vlan, if_neg (mt tagged.mp vlan), word16At_toNat, Option.map_none, and_self]

/-- Settles O32: each check by the arrival it makes, and a frame the port does not receive by the clock alone. -/
theorem arrivalChecksInOrder : Obligations.ArrivalChecksInOrder := by
  unfold Obligations.ArrivalChecksInOrder
  refine ⟨fun w c => satInc_toNat c, fun f => ?_, fun t p f s => ?_⟩
  · intro num after
    obtain ⟨type, tci, header⟩ := frameType_eq f
    refine ⟨macAt_toNat f 0, macAt_toNat f 6, type, tci, ?_⟩
    rw [payload, header, frameBody]
  · intro s1 c put sound
    refine ⟨fun ready => ⟨fun bad => ?_, fun good misfits => ?_, fun whole flow => ?_, fun whole other addressed type => ?_, ?_⟩,
      fun later unheard => ?_, fun halted => ?_⟩
    · rw [exec_arrival ready (classifyArrival_fcs bad) (by simp)]
      cases p <;> rfl
    · rw [exec_arrival ready (classifyArrival_length good misfits) (by simp)]
      cases p <;> rfl
    · obtain ⟨good, long, short⟩ := whole
      exact exec_arrival ready (classifyArrival_flow good (by omega) flow) (by simp)
    · obtain ⟨good, long, short⟩ := whole
      have stray := (classifyArrival_accepted (port := p) good (by omega) other).trans (classifyAccepted_stray addressed type)
      rw [exec_arrival ready stray (by simp)]
      cases p <;> rfl
    · rw [exec_arrival_unreceived (Bool.and_false _), (clock_ready p t s ready).1]
    · have alive : s.phase.alive = true := by
        rcases unheard with ⟨running, -⟩ | loading
        · exact alive_of_running running
        · cases phase : s.phase <;> rw [phase] at loading <;> first | rfl | cases loading
      have now := clock_alive t s alive later
      have deaf : ((s.clock t).receives p && true) = false := by
        rw [Bool.and_true, now, State.receives, Bool.and_eq_false_iff]
        rcases unheard with ⟨-, down, since⟩ | loading
        · have port : s1.port p = s.port p := by cases p <;> rfl
          refine .inr ?_
          change (s1.port p).heardAt t = false
          rw [port, PortState.heardAt, down, decide_eq_false since]
          rfl
        · refine .inl (decide_eq_false fun running => ?_)
          change s.phase = .running at running
          rw [running] at loading
          cases loading
      rw [exec_arrival_unreceived deaf, now]
    · have still : s.clock t = s := by
        unfold State.clock
        cases phase : s.phase <;> rw [phase] at halted <;> first | rfl | cases halted
      have deaf : ((s.clock t).receives p && true) = false := by
        rw [Bool.and_true, still, State.receives, Bool.and_eq_false_iff]
        refine .inl (decide_eq_false fun running => ?_)
        rw [running] at halted
        cases halted
      rw [exec_arrival_unreceived deaf, still]

/-- Settles O34: the routing of each arrival that names no station in a table. -/
theorem unvettedFramesAreRouted : Obligations.UnvettedFramesAreRouted := by
  unfold Obligations.UnvettedFramesAreRouted
  intro t p f s ready s1 a counted queue drops
  have routed {x : Arrival} (found : a = x) (other : x ≠ .management) :
      exec (.frameArrival t p true f) s = .next (s1.routeArrival p f x) := exec_arrival ready found other
  have queueEq (c : FrameClass) : classQueue c = queue c := by cases c <;> rfl
  have port : s1.port p = s.port p := by cases p <;> rfl
  refine ⟨fun found pass => ?_, fun found drop => ?_, fun c found => ?_, fun c cause found plant => ?_, fun c cause found line => ?_,
    fun c found plant cls => ?_, fun c found forwarded => ?_⟩
  · rw [routed found (by simp)]
    change Host.Outcome.next (s1.routeForeign p f) = _
    rw [State.routeForeign, pass]
  · rw [routed found (by simp)]
    change Host.Outcome.next (s1.routeForeign p f) = _
    rw [State.routeForeign, drop]
    cases p <;> rfl
  · rw [← queueEq]
    rcases found with unexamined | plain
    · exact routed unexamined (by simp)
    · exact routed plain (by simp)
  · subst plant
    exact routed found (by simp)
  · subst line
    rw [routed found (by simp)]
    rcases c with _ | c
    · rfl
    · cases c <;> rfl
  · subst plant
    rw [routed found (by simp)]
    rcases cls with rfl | rfl | rfl <;> rfl
  · rw [routed found (by simp)]
    have sought := classifyArrival_unknown found
    rcases forwarded with rfl | rfl
    · cases c <;> first | rfl | cases sought
    · cases p <;> rfl

/-- Settles O35: the read verdict of the area, and the two gates by station state and window. -/
theorem gatedRequestsAreJudged : Obligations.GatedRequestsAreJudged := by
  unfold Obligations.GatedRequestsAreJudged
  intro t f prof n c s ready found s1 e p passes refuses
  have routed : exec (.frameArrival t .P true f) s = .next (s1.routeRequest p n c f) :=
    exec_arrival ready found (by simp)
  refine ⟨fun isRead a area => ?_, fun isControl => ?_, fun isProgram => ?_⟩
  · subst isRead
    obtain rfl : a = p.areaIndex (payload f) := Fin.ext ((congrArg (· % 16) area).trans (Nat.mod_eq_of_lt a.isLt)).symm
    refine ⟨fun pass => routed.trans (congrArg _ ?_), fun refuse => routed.trans (congrArg _ ?_)⟩
    · change s1.readVerdict p n f = _
      have verdict : ((s1.station n).policies[p.areaIndex (payload f)]).read = .pass := pass
      simp only [State.readVerdict, verdict]
    · change s1.readVerdict p n f = _
      have verdict : ((s1.station n).policies[p.areaIndex (payload f)]).read = .refuse := refuse
      simp only [State.readVerdict, verdict]
      rfl
  · subst isControl
    have permitted (none_ : controlRefusal s1 n = none) : passes := by
      refine routed.trans (congrArg _ ?_)
      change s1.gateControl n f = _
      rw [State.gateControl, none_]
    have refused {why : Reason} (some_ : controlRefusal s1 n = some why) : refuses .controlRefused 4 why := by
      refine routed.trans (congrArg _ ?_)
      change s1.gateControl n f = _
      rw [State.gateControl, some_]
      rfl
    have judged : controlRefusal s1 n = match e.state with
        | .normal => if s.window.isOpen && e.config.member then none else some .notInWindow
        | .service => none
        | .quarantined => some .quarantined := rfl
    refine ⟨fun normal opened member => permitted ?_, fun normal other => refused ?_, fun service => permitted ?_,
      fun quarantined => refused ?_⟩
    · rw [judged, normal, opened, member]
      rfl
    · rw [judged, normal]
      refine if_neg fun both => ?_
      obtain ⟨opened, member⟩ := Bool.and_eq_true_iff.mp both
      rcases other with closed | outside
      · exact ne_false_of_eq_true opened closed
      · exact ne_false_of_eq_true member outside
    · rw [judged, service]
    · rw [judged, quarantined]
  · subst isProgram
    have permitted (none_ : programRefusal s1 n = none) : passes := by
      refine routed.trans (congrArg _ ?_)
      change s1.gateProgram n f = _
      rw [State.gateProgram, none_]
    have refused {why : Reason} (some_ : programRefusal s1 n = some why) : refuses .programRefused 5 why := by
      refine routed.trans (congrArg _ ?_)
      change s1.gateProgram n f = _
      rw [State.gateProgram, some_]
      rfl
    have judged : programRefusal s1 n = match e.state with
        | .normal => some .notInService
        | .service => none
        | .quarantined => some .quarantined := rfl
    refine ⟨fun normal => refused ?_, fun service => permitted ?_, fun quarantined => refused ?_⟩
    · rw [judged, normal]
    · rw [judged, service]
    · rw [judged, quarantined]

end Sys2Proof.Machine

/-! PROOFS. A WRITE request in the vetting unit (R57, R72 to R75), and the frame as forwarded (R71). -/

namespace Sys2Proof.Machine

/-! ### The frame as forwarded -/

theorem overwrite_length {o : List Octet} {i : Nat} {new : List Octet} (inside : i + new.length ≤ o.length) :
    (overwrite o i new).length = o.length := by
  simp only [overwrite, List.length_append, List.length_take, List.length_drop]
  omega

theorem overwrite_getElem? {o : List Octet} {i : Nat} {new : List Octet} (inside : i + new.length ≤ o.length) (j : Nat) :
    (overwrite o i new)[j]? = if i ≤ j ∧ j < i + new.length then new[j - i]? else o[j]? := by
  have front : (o.take i).length = i := by rw [List.length_take]; omega
  rw [overwrite, List.append_assoc]
  by_cases before : j < i
  · rw [List.getElem?_append_left (by omega), if_neg (by omega), List.getElem?_take_of_lt before]
  · rw [List.getElem?_append_right (by omega), front]
    by_cases within : j < i + new.length
    · rw [List.getElem?_append_left (by omega), if_pos ⟨by omega, within⟩]
    · rw [List.getElem?_append_right (by omega), if_neg (by omega), List.getElem?_drop]
      congr 1
      omega

theorem slice_getElem? (o : List Octet) (i n k : Nat) : (slice o i n)[k]? = if k < n then o[i + k]? else none := by
  rw [slice, List.getElem?_take]
  split
  · exact List.getElem?_drop
  · rfl

@[simp] theorem valueOctets_length (p : Profile) (v : Int) : (valueOctets p v).length = p.valueWidth.toNat := by
  unfold valueOctets
  dsimp only
  split <;> simp

/-- A value written in the profile's byte order is read back as its two's complement (R6, R71). -/
theorem number_valueOctets {p : Profile} (order : p.byteOrder ≠ none) (v : Int) :
    (p.number (valueOctets p v) : Int) = v % 256 ^ p.valueWidth.toNat := by
  have written := beNat_beOctetsInt p.valueWidth.toNat v
  push_cast at written
  unfold Profile.number valueOctets
  cases byteOrder : p.byteOrder with
  | none => exact absurd byteOrder order
  | some x =>
    cases x with
    | little =>
      dsimp only
      rw [← beNat_reverse, List.reverse_reverse]
      exact written
    | big => exact written

/-- The octets of the value at a position. -/
def inValue (p : Profile) (frame : List Octet) (l : Listed) (j : Nat) : Prop :=
  valueOffset p frame l.position ≤ j ∧ j < valueOffset p frame l.position + p.valueWidth.toNat

/-- The values of a frame do not overlap. -/
theorem inValue_disjoint {p : Profile} {frame : List Octet} {a b : Listed} (apart : a.position ≠ b.position) {j : Nat}
    (inA : inValue p frame a j) : ¬ inValue p frame b j := by
  unfold inValue valueOffset at *
  rcases Nat.lt_or_gt_of_ne apart with less | more
  · have next := Nat.mul_le_mul_right p.valueWidth.toNat less
    rw [Nat.succ_mul] at next
    omega
  · have next := Nat.mul_le_mul_right p.valueWidth.toNat more
    rw [Nat.succ_mul] at next
    omega

section
variable {p : Profile} {frame : List Octet}

theorem rewriteValue_unclamped {body : List Octet} {l : Listed} (unclamped : l.stage = none) : rewriteValue p frame body l = body := by
  simp only [rewriteValue, unclamped]

theorem rewriteValue_clamped {body : List Octet} {l : Listed} (clamped : l.stage ≠ none) :
    rewriteValue p frame body l = overwrite body (valueOffset p frame l.position) (valueOctets p l.value) := by
  obtain ⟨stage, clamped⟩ := Option.ne_none_iff_exists'.mp clamped
  simp only [rewriteValue, clamped]

variable {body : List Octet} {l : Listed} (inside : valueOffset p frame l.position + p.valueWidth.toNat ≤ body.length)
include inside

theorem rewriteValue_length : (rewriteValue p frame body l).length = body.length := by
  by_cases clamped : l.stage = none
  · rw [rewriteValue_unclamped clamped]
  · rw [rewriteValue_clamped clamped, overwrite_length (by rwa [valueOctets_length])]

theorem rewriteValue_other {j : Nat} (outside : l.stage ≠ none → ¬ inValue p frame l j) :
    (rewriteValue p frame body l)[j]? = body[j]? := by
  by_cases clamped : l.stage = none
  · rw [rewriteValue_unclamped clamped]
  · rw [rewriteValue_clamped clamped, overwrite_getElem? (by rwa [valueOctets_length]), valueOctets_length]
    exact if_neg (outside clamped)

theorem rewriteValue_value (clamped : l.stage ≠ none) {k : Nat} (within : k < p.valueWidth.toNat) :
    (rewriteValue p frame body l)[valueOffset p frame l.position + k]? = (valueOctets p l.value)[k]? := by
  rw [rewriteValue_clamped clamped, overwrite_getElem? (by rwa [valueOctets_length]), valueOctets_length, if_pos (by omega),
    Nat.add_sub_cancel_left]

end

/-- The rewriting of all clamped values of a frame (R71). -/
theorem rewriteValues (p : Profile) (frame : List Octet) {listed : List Listed} (distinct : (listed.map (·.position)).Nodup)
    {body : List Octet} (inside : ∀ l ∈ listed, valueOffset p frame l.position + p.valueWidth.toNat ≤ body.length) :
    let result := listed.foldl (rewriteValue p frame) body
    result.length = body.length ∧
    (∀ j, (∀ l ∈ listed, l.stage ≠ none → ¬ inValue p frame l j) → result[j]? = body[j]?) ∧
    ∀ l ∈ listed, l.stage ≠ none → ∀ k, k < p.valueWidth.toNat →
      result[valueOffset p frame l.position + k]? = (valueOctets p l.value)[k]? := by
  induction listed generalizing body with
  | nil => exact ⟨rfl, fun _ _ => rfl, fun l member => absurd member (List.not_mem_nil)⟩
  | cons l rest ih =>
    rw [List.map_cons, List.nodup_cons] at distinct
    obtain ⟨fresh, distinct⟩ := distinct
    have first := inside l (List.mem_cons_self ..)
    have length := rewriteValue_length (p := p) (frame := frame) first
    obtain ⟨lengths, others, values⟩ := ih distinct (body := rewriteValue p frame body l) fun x member => by
      rw [length]
      exact inside x (List.mem_cons_of_mem _ member)
    refine ⟨lengths.trans length, fun j outside => ?_, fun x member clamped k within => ?_⟩
    · rw [List.foldl_cons, others j fun x member => outside x (List.mem_cons_of_mem _ member)]
      exact rewriteValue_other first (outside l (List.mem_cons_self ..))
    · rcases List.mem_cons.mp member with rfl | later
      · rw [List.foldl_cons, others _ fun y memberY _ => ?_, rewriteValue_value first clamped within]
        refine inValue_disjoint (a := x) (fun same => fresh (List.mem_map.mpr ⟨y, memberY, same.symm⟩)) ?_
        exact ⟨Nat.le_add_right _ _, by omega⟩
      · exact values x later clamped k within

/-- Settles O31: the rewriting of the body, value by value, and the FCS over it. -/
theorem rewrittenFrameKeepsTheRest : Obligations.RewrittenFrameKeepsTheRest := by
  unfold Obligations.RewrittenFrameKeepsTheRest
  intro w listed distinct long inside g start
  have bodyLength : (frameBody w.frame).length = w.frame.length - 4 := by
    rw [frameBody, List.length_take]
    omega
  have fits : ∀ l ∈ listed, valueOffset w.profile w.frame l.position + w.profile.valueWidth.toNat ≤ (frameBody w.frame).length := by
    intro l member
    have bound := inside l member
    rw [bodyLength, valueOffset]
    rw [Nat.succ_mul] at bound
    omega
  obtain ⟨length, others, values⟩ := rewriteValues w.profile w.frame distinct fits
  constructor
  · intro unclamped
    refine if_neg fun some_ => ?_
    obtain ⟨l, member, clamped⟩ := List.any_eq_true.mp some_
    rw [unclamped l member] at clamped
    cases clamped
  · rintro ⟨l0, member0, clamped0⟩
    have rewritten : g = withFcs (listed.foldl (rewriteValue w.profile w.frame) (frameBody w.frame)) :=
      if_pos (List.any_eq_true.mpr ⟨l0, member0, Option.isSome_iff_ne_none.mpr clamped0⟩)
    have total : g.length = w.frame.length := by
      rw [rewritten, withFcs_length, length, bodyLength]
      omega
    have bodyAt {j : Nat} (bound : j < w.frame.length - 4) :
        g[j]? = (listed.foldl (rewriteValue w.profile w.frame) (frameBody w.frame))[j]? := by
      rw [rewritten, withFcs, List.getElem?_append_left (by omega)]
    have valueAt (l : Listed) (member : l ∈ listed) (clamped : l.stage ≠ none) :
        slice g (start l) w.profile.valueWidth.toNat = valueOctets w.profile l.value := by
      refine List.ext_getElem? fun k => ?_
      rw [slice_getElem?]
      split
      · next within =>
        have bound := fits l member
        rw [bodyLength] at bound
        rw [bodyAt (by change valueOffset w.profile w.frame l.position + k < _; omega)]
        exact values l member clamped k within
      · next beyond => exact (List.getElem?_eq_none (by rw [valueOctets_length]; omega)).symm
    refine ⟨total, by rw [rewritten, fcsGood_withFcs], fun l member clamped => ⟨valueAt l member clamped, fun order => ?_⟩,
      fun i bound outside => ?_⟩
    · have bound : start l + w.profile.valueWidth.toNat ≤ g.length := by
        have fit := fits l member
        change valueOffset w.profile w.frame l.position + _ ≤ _
        omega
      rw [← w.profile.number_slice g _ _ order bound, valueAt l member clamped, number_valueOctets order]
    · rw [bodyAt bound, others i outside, frameBody, List.getElem?_take_of_lt bound]

/-! ### A WRITE request -/

theorem malformation_none {p : Profile} {length : Nat} {pl : List Octet} {c : FrameClass} {r : Role}
    (wellFormed : malformation p length pl c r = none) (indexed : addressesIndices c r = true) :
    headerFields p pl c r ∧ p.area pl ≤ 15 ∧ p.index pl + p.count pl ≤ 65536 ∧
      (carriesValues c r = true → p.firstValueOffset.toNat + p.count pl * p.valueWidth.toNat ≤ pl.length) := by
  unfold malformation at wellFormed
  split_ifs at wellFormed with _ header unindexed area count range values
  · exact absurd indexed (Bool.eq_false_iff.mp unindexed)
  · refine ⟨(headerPresent_iff p pl c r).mp (by simpa using header), by omega, by omega, fun carries => ?_⟩
    exact Nat.not_lt.mp fun short => values ⟨carries, short⟩

/-- What the classifier has read where the profile places it, for a class and role that address indices and carry values. -/
theorem values_getElem_of_wellFormed {p : Profile} {length : Nat} {pl : List Octet} {c : FrameClass} {r : Role}
    (wellFormed : malformation p length pl c r = none) (indexed : addressesIndices c r = true) (valued : carriesValues c r = true)
    (order : p.byteOrder ≠ none) {i : Nat} (bound : i < (p.values pl).length) :
    (p.values pl)[i]? = some (p.reads pl (p.firstValueOffset.toNat + i * p.valueWidth.toNat) p.valueWidth.toNat) := by
  obtain ⟨-, -, -, inside⟩ := malformation_none wellFormed indexed
  rw [Profile.values_length] at bound
  have fits := inside valued
  have whole := Nat.mul_le_mul_right p.valueWidth.toNat (Nat.succ_le_of_lt bound)
  exact Profile.values_getElem order bound (by rw [Nat.succ_eq_add_one] at whole; omega)

theorem areaIndex_val {p : Profile} {pl : List Octet} (area : p.area pl ≤ 15) : (p.areaIndex pl).val = p.area pl :=
  Nat.mod_eq_of_lt (by omega)

/-- The slots of an admitted frame become PENDING, each with its former committed value (R79). -/
theorem track_eq {s : State} {w : WriteRequest} {a : Admission} (some_ : a.listed ≠ [])
    (distinct : (a.listed.map (·.slot)).Nodup) (settled : ∀ i ∈ a.listed.map (·.slot), ∀ c v r, s.image[i] ≠ .pending c v r) :
    s.track w a = { s with
      txns := s.txns ++ [newTxn w a]
      image := tabulate fun i : Fin 512 => match a.listed.find? fun l => decide (l.slot = i) with
        | none => s.image[i]
        | some l => .pending (match s.image[i] with
          | .known c => some c
          | _ => none) l.value ⟨w.station, w.tag⟩ } := by
  obtain ⟨l, rest, listed⟩ := List.exists_cons_of_ne_nil some_
  have tracked : s.track w a = ({ s with txns := s.txns ++ [newTxn w a] }).holdSlots ⟨w.station, w.tag⟩ a.listed := by
    simp only [State.track, listed]
  rw [tracked, holdSlots_eq _ _ _ distinct]
  congr 2
  funext i
  cases found : a.listed.find? fun l => decide (l.slot = i) with
  | none => rfl
  | some x =>
    have slot : x.slot = i := by simpa using List.find?_some found
    have unpending := settled i (List.mem_map.mpr ⟨x, List.mem_of_find?_eq_some found, slot⟩)
    dsimp only
    cases image : s.image[i] with
    | unknown | known c => rfl
    | pending c v r => exact absurd image (unpending c v r)

/-- Settles O30: the request the classifier reads, and the two verdicts of the vetting unit. -/
theorem writeRequestIsVetted : Obligations.WriteRequestIsVetted := by
  unfold Obligations.WriteRequestIsVetted
  intro t f prof n s ready found s1 p pl w c
  have wellFormed : malformation p f.length pl .write .request = none := classifyArrival_identified found
  obtain ⟨⟨⟨x, hasTag, tagInside⟩, -, indexInside, -⟩, area, inRange, -⟩ := malformation_none wellFormed rfl
  have routed : exec (.frameArrival t .P true f) s = .next (s1.vet w) := exec_arrival ready found (by simp)
  refine ⟨⟨rfl, rfl, rfl, rfl, fun _ => rfl, areaIndex_val area, p.values_length pl, fun order => ⟨p.index_eq order indexInside,
    ⟨x, hasTag, p.tag_eq order hasTag tagInside⟩, fun i => values_getElem_of_wellFormed wellFormed rfl rfl order⟩⟩,
    fun e refused => ?_, fun a admitted => ?_⟩
  · rw [routed, State.vet, refused]
    rfl
  · intro txns held tracked queued
    have admits : exec (.frameArrival t .P true f) s = .next (s1.admitWrite w a) := by
      rw [routed, State.vet, admitted]
    obtain ⟨-, -, all, -, -⟩ := frameVerdict_ok admitted
    obtain ⟨distinct, settled⟩ := vetItems_slots (by rw [show w.raws.length = p.count pl from p.values_length pl]; exact inRange) all
    have tracks : s1.track w a = tracked := by
      by_cases none_ : a.listed = []
      · change _ = if a.listed = [] then _ else _
        rw [if_pos none_]
        simp only [State.track, none_]
      · change _ = if a.listed = [] then _ else _
        rw [if_neg none_, track_eq none_ distinct settled]
        rfl
    have mark : admissionMark w a = if a.listed = [] then none else some ⟨n, w.tag⟩ := by
      unfold admissionMark
      cases a.listed with
      | nil => rfl
      | cons l rest => rfl
    have counters : queued.counters = s.counters := by
      rw [handOver_counters]
      change (if a.listed = [] then s1 else _).counters = _
      split <;> rfl
    have entered : (s1.track w a).handOver .L .ordinary (forwardedFrame (forwardedOctets w a.listed) (admissionMark w a)) = queued := by
      rw [tracks, mark]
    have counted (clamped : Bool) : queued.countAdmitted w.station clamped = { queued with
        counters := s.counters.set n ⟨satInc c.admitted, if clamped then satInc c.clamped else c.clamped, c.refused, c.drift⟩ } := by
      simp only [State.countAdmitted, State.setCounters, counters]
      rfl
    refine ⟨fun unclamped => ?_, fun l first => ?_⟩
    · rw [admits]
      simp only [State.admitWrite, entered, unclamped, counted]
      rfl
    · rw [admits]
      simp only [State.admitWrite, entered, first, counted]
      rfl

end Sys2Proof.Machine

/-! PROOFS. The value image taught by a read reply (R81 to R87), and the endings of a transaction (R99 to R107). -/

namespace Sys2Proof.Machine

/-! ### Learning one value -/

/-- The lowest slot whose record has the key is the one a lookup returns (R50). -/
theorem lookup_eq_some_of_first {b : Bank} {k : Key} {slot : Fin 512} {r : ParamRecord} (holds : b[slot] = some r) (named : r.key = k)
    (first : ∀ (j : Fin 512) (r' : ParamRecord), j < slot → b[j] = some r' → r'.key ≠ k) : lookup b k = some (slot, r) := by
  have index : (b.toList.findIdx? fun r => r.any fun r => decide (r.key = k)) = some slot.val := by
    rw [List.findIdx?_eq_some_iff_getElem]
    refine ⟨by simp, ?_, fun j less => ?_⟩
    · have at_ : b.toList[slot.val]'(by simp) = some r := by simpa using holds
      rw [at_]
      simpa using named
    · have bound : j < 512 := less.trans slot.isLt
      cases entry : b[j] with
      | none => simp [entry]
      | some r' =>
        have other := first ⟨j, bound⟩ r' less entry
        simp [entry, other]
  have found : findSlot b k = some slot := by
    simp only [findSlot, index, dif_pos slot.isLt]
  simp only [lookup, found, holds, Option.map_some]

section
variable {o : ReadOffer} {changeover : Bool} {i raw : Nat} {s : State}

theorem learnValue_unlisted (unlisted : lookup s.settings.activeBank (o.key i) = none) :
    learnValue o changeover i raw s = (s, false) := by
  simp only [learnValue, unlisted]

section
variable {slot : Fin 512} {r : ParamRecord} (found : lookup s.settings.activeBank (o.key i) = some (slot, r))
include found

theorem learnValue_misfit (misfits : kindOctets r.kind ≠ o.width) : learnValue o changeover i raw s = (s, false) := by
  have width := (Kind.interpret_width r.kind raw).1
  simp only [learnValue, found]
  exact if_neg (by rwa [width])

variable (fits : kindOctets r.kind = o.width)
include fits

theorem learnValue_expected (expected : (s.image[slot].learn (kindReads r.kind (kindOctets r.kind) raw)).2 = none) :
    learnValue o changeover i raw s =
      (s.setImage slot (s.image[slot].learn (kindReads r.kind (kindOctets r.kind) raw)).1, false) := by
  obtain ⟨width, reads⟩ := Kind.interpret_width r.kind raw
  have sameWidth : o.width = r.kind.width := fits.symm.trans width.symm
  simp only [learnValue, found, sameWidth, if_true, reads]
  generalize s.image[slot].learn (kindReads r.kind (kindOctets r.kind) raw) = learned at expected ⊢
  obtain ⟨after, drift⟩ := learned
  cases expected
  rfl

theorem learnValue_drift {d : Drift} (drifts : (s.image[slot].learn (kindReads r.kind (kindOctets r.kind) raw)).2 = some d) :
    learnValue o changeover i raw s =
      (((((s.setImage slot (s.image[slot].learn (kindReads r.kind (kindOctets r.kind) raw)).1).countDrift o.station).raise
        (driftEvent o.station (o.key i) r d (kindReads r.kind (kindOctets r.kind) raw) o.source)).breachCheck o.station (o.key i) r
          changeover (kindReads r.kind (kindOctets r.kind) raw) o.source), true) := by
  obtain ⟨width, reads⟩ := Kind.interpret_width r.kind raw
  have sameWidth : o.width = r.kind.width := fits.symm.trans width.symm
  simp only [learnValue, found, sameWidth, if_true, reads]
  generalize s.image[slot].learn (kindReads r.kind (kindOctets r.kind) raw) = learned at drifts ⊢
  obtain ⟨after, drift⟩ := learned
  cases drifts
  rfl

end

end

section
variable {n : Fin 32} {k : Key} {r : ParamRecord} {changeover : Bool} {v : Int} {source : Mac} {s : State}

theorem breachCheck_inside (least : (if changeover then r.chgLo else r.runLo) ≤ v) (most : v ≤ if changeover then r.chgHi else r.runHi) :
    s.breachCheck n k r changeover v source = s := by
  have none_ : passedBound r changeover v = none := by
    simp only [passedBound]
    rw [if_neg (Int.not_lt.mpr least), if_neg (Int.not_lt.mpr most)]
  simp only [State.breachCheck, none_]

theorem breachCheck_outside (outside : v < (if changeover then r.chgLo else r.runLo) ∨ (if changeover then r.chgHi else r.runHi) < v) :
    s.breachCheck n k r changeover v source =
      (s.raise (breachEvent n k v (if v < (if changeover then r.chgLo else r.runLo) then (if changeover then r.chgLo else r.runLo)
        else if changeover then r.chgHi else r.runHi) changeover source)).breachReport n := by
  have passed : passedBound r changeover v = some (if v < (if changeover then r.chgLo else r.runLo) then
      (if changeover then r.chgLo else r.runLo) else if changeover then r.chgHi else r.runHi) := by
    simp only [passedBound]
    by_cases low : v < if changeover then r.chgLo else r.runLo
    · simp only [if_pos low]
    · simp only [if_neg low, if_pos (outside.resolve_left low)]
  simp only [State.breachCheck, passed]

end

/-! ### Learning a reply -/

theorem learnValues_eq (o : ReadOffer) (changeover : Bool) (raws : List Nat) (i : Nat) (s : State) (n : Nat) :
    (raws.zipIdx i).foldl (fun (x : State × Nat) (v : Nat × Nat) =>
      ((learnValue o changeover v.2 v.1 x.1).1, if (learnValue o changeover v.2 v.1 x.1).2 then x.2 + 1 else x.2)) (s, n) =
    ((learnValues o changeover raws i s).1, n + (learnValues o changeover raws i s).2) := by
  induction raws generalizing i s n with
  | nil => rfl
  | cons raw rest ih =>
    rw [List.zipIdx_cons, List.foldl_cons, ih, learnValues]
    dsimp only
    split <;> simp only [Prod.mk.injEq, true_and] <;> omega

theorem reportDrifts_eq (n : Fin 32) (count : Nat) (s : State) :
    s.reportDrifts n count = (List.range count).foldl (fun u _ => u.report .drift (some n)) s := by
  have iterated : s.reportDrifts n count = (fun u : State => u.report .drift (some n))^[count] s := by
    induction count generalizing s with
    | zero => rfl
    | succ count ih => rw [State.reportDrifts, ih, Function.iterate_succ_apply]
  rw [iterated, List.foldl_const, List.length_range]

theorem changeoverInForce_eq (s : State) (n : Fin 32) : s.changeoverInForce n = (decide ((s.station n).state = .service) ||
    ((s.station n).config.member && (s.window.isOpen || decide (s.window = .draining)))) := by
  have window : s.window.changeoverEnvelope = (s.window.isOpen || decide (s.window = .draining)) := by
    cases s.window <;> simp [Window.changeoverEnvelope, Window.isOpen]
  rw [State.changeoverInForce, window]
  cases (s.station n).state <;> simp

/-- Settles O38: one value by what its slot makes of it, the reply as the fold of its values. -/
theorem readReplyTeachesTheImage : Obligations.ReadReplyTeachesTheImage := by
  unfold Obligations.ReadReplyTeachesTheImage
  refine ⟨fun o changeover i raw s => ?_, fun t f prof n s ready found => ?_⟩
  · intro k
    refine ⟨fun unlisted => learnValue_unlisted (lookup_eq_none unlisted), fun slot r holds named first => ?_⟩
    intro v lo hi after
    have listed : lookup s.settings.activeBank (o.key i) = some (slot, r) := lookup_eq_some_of_first holds named first
    refine ⟨learnValue_misfit listed, fun fits expected => learnValue_expected listed fits expected, fun d fits drifts => ?_⟩
    intro c drifted breached e
    have taught : learnValue o changeover i raw s =
        (drifted.breachCheck o.station (o.key i) r changeover v o.source, true) := learnValue_drift listed fits drifts
    have passes (outside : v < lo ∨ hi < v) :
        drifted.breachCheck o.station (o.key i) r changeover v o.source = breached.breachReport o.station := breachCheck_outside outside
    refine ⟨fun least most => ?_, fun outside kept => ?_, fun outside marks fresh => ?_⟩
    · rw [taught, breachCheck_inside least most]
    · rw [taught, passes outside]
      refine congrArg (·, true) (if_neg ?_)
      rintro ⟨marks, fresh⟩
      rcases kept with unmarked | held
      · exact ne_false_of_eq_true marks unmarked
      · exact fresh held
    · rw [taught, passes outside]
      exact congrArg (·, true) (if_pos ⟨marks, fresh⟩)
  · intro p s1 o pl changeover learned reported
    have wellFormed : malformation p f.length pl .read .reply = none := classifyArrival_identified found
    obtain ⟨⟨-, -, indexInside, -⟩, area, -, -⟩ := malformation_none wellFormed rfl
    have routed : exec (.frameArrival t .L true f) s = .next ((s1.offerReply p n .read f).forward .P .ordinary f) :=
      exec_arrival ready found (by simp)
    have values : learned = learnValues o changeover (p.values pl) 0 s1 :=
      (learnValues_eq o changeover (p.values pl) 0 s1 0).trans (Prod.ext rfl (Nat.zero_add _))
    refine ⟨⟨rfl, rfl, rfl, rfl, areaIndex_val area, p.values_length pl, fun order => ⟨p.index_eq order indexInside,
      fun i => values_getElem_of_wellFormed wellFormed rfl rfl order⟩⟩, fun success => ?_, fun other => ?_⟩
    · have offered : s1.offerReply p n .read f = s1.learnReply o := if_pos success
      have inForce : s1.changeoverInForce o.station = changeover := changeoverInForce_eq s1 n
      have learns : s1.learnReply o = reported := by
        change (if (s.station n).config.member then _ else _) = if (s.station n).config.member then _ else _
        rw [inForce, reportDrifts_eq, values] <;> rfl
      rw [routed, offered, learns]
    · have offered : s1.offerReply p n .read f = s1 := if_neg other
      rw [routed, offered]

/-! ### The endings of a transaction -/

theorem findSent_eq_some {txns : List Txn} (unique : (txns.map (·.ref)).Nodup) {x : Txn} {d : Nat} (member : x ∈ txns)
    (sent : x.state = .sent d) : findSent txns x.ref = some x := by
  have some_ : (findSent txns x.ref).isSome = true :=
    List.find?_isSome.mpr ⟨x, member, by simp [sent]⟩
  obtain ⟨y, found⟩ := Option.isSome_iff_exists.mp some_
  obtain ⟨listed, same, -⟩ := findSent_some found
  rw [found, List.inj_on_of_nodup_map unique listed member same]

theorem findSent_eq_none {txns : List Txn} {r : TxnRef} (none_ : ∀ x d, x ∈ txns → x.ref = r → x.state ≠ .sent d) :
    findSent txns r = none := by
  cases found : findSent txns r with
  | none => rfl
  | some x =>
    obtain ⟨member, same, unqueued⟩ := findSent_some found
    cases state : x.state with
    | sent d => exact absurd state (none_ x d member same)
    | queued => exact absurd ((isQueued_iff x).mpr state) (Bool.eq_false_iff.mp unqueued)

/-- The report of an ending in a window that is not OPEN is an examination of DRAINING (R126). -/
theorem reportEnding_closed {o : TxnOutcome} {n : Fin 32} {s : State} (closed : s.window.isOpen = false) :
    s.reportEnding o n = s.examineDraining := by
  unfold State.reportEnding
  cases window : s.window with
  | opened a b =>
    rw [window] at closed
    cases closed
  | draining => rfl
  | shut | holdOff d => exact (examineDraining_other (by simp [window])).symm

theorem reportEnding_opened {o : TxnOutcome} {n : Fin 32} {s : State} (opened : s.window.isOpen = true) :
    s.reportEnding o n = if o = .timeout then s.report .timeout (some n) else s := by
  obtain ⟨a, b, window⟩ := (isOpen_iff _).mp opened
  simp only [State.reportEnding, window]

theorem firstKey_eq (s : State) (x : Txn) : (firstKey s x).map (fun k => (k.area, k.index)) =
    (x.slots.head?.bind fun i => s.settings.activeBank[i]).map fun r => (r.key.area, r.key.index) := by
  unfold firstKey
  cases x.slots with
  | nil => rfl
  | cons i rest => simp [Option.map_map, Function.comp_def]

/-- Settles O39: the steps of an ending, and which transaction a reply or a deadline ends. -/
theorem transactionEndings : Obligations.TransactionEndings := by
  unfold Obligations.TransactionEndings
  refine ⟨fun s x o status table member => ?_, fun t f prof n s ready table found => ?_, fun t n tag s running later table => ?_⟩
  · intro ended key told
    have left : (s.removeTxn x.ref).releaseSlots x.ref o x.slots = ended := by
      have differs (y : Txn) (listed : y ∈ s.txns) : y.ref ≠ x.ref ↔ y ≠ x :=
        not_congr ⟨table.eq_of_ref member listed, fun same => congrArg _ same⟩
      have removed : (s.txns.filter fun y => decide (y.ref ≠ x.ref)) = s.txns.filter fun y => decide (y ≠ x) :=
        List.filter_congr fun y listed => by simp only [differs y listed]
      rw [ends_eq, removed]
    have named : (firstKey ended x).map (fun k => (k.area, k.index)) = key := firstKey_eq ended x
    have quietly : s.endQuietly x o status = told := by
      rw [State.endQuietly, left]
      cases o with
      | success | discard => rfl
      | failure => simp only [endingEvent, rejectedEvent, named] <;> rfl
      | timeout => simp only [endingEvent, timeoutEvent, named] <;> rfl
    refine ⟨fun run => ?_, fun change opened timeout => ?_, fun change opened other => ?_, fun change closed => ?_⟩ <;>
      simp only [State.endTxn, quietly]
    · rw [run]
    · rw [change]
      exact (reportEnding_opened opened).trans (if_pos timeout)
    · rw [change]
      exact (reportEnding_opened opened).trans (if_neg other)
    · rw [change]
      exact reportEnding_closed closed
  · intro p s1 r
    have routed : exec (.frameArrival t .L true f) s = .next ((s1.offerWriteReply r (decide (p.status (payload f) = p.successStatus))
        (p.status (payload f))).forward .P .ordinary f) := exec_arrival ready found (by simp)
    refine ⟨fun x d member same sent => ?_, fun none_ => ?_⟩
    · have matched : findSent s1.txns r = some x := same ▸ findSent_eq_some table.unique member sent
      rw [routed, State.offerWriteReply, matched]
      simp only [decide_eq_true_eq]
    · have unmatched : findSent s1.txns r = none := findSent_eq_none none_
      rw [routed, State.offerWriteReply, unmatched]
      rfl
  · have now := clock_alive t s (alive_of_running running) later
    have runs : (s.clock t).phase = .running := (clock_phase t s).trans running
    refine ⟨fun x d member same sent due => ?_, fun early => ?_⟩
    · have ends : dueTxn { s with now := t } ⟨n, tag⟩ = some x := by
        have matched : findSent s.txns ⟨n, tag⟩ = some x := same ▸ findSent_eq_some table.unique member sent
        simp only [dueTxn, matched, sent]
        exact if_pos due
      simp only [exec, execTransactionDeadline, runs, if_true]
      rw [now, ends]
    · have none_ : dueTxn { s with now := t } ⟨n, tag⟩ = none := by
        unfold dueTxn
        split
        · next x matched =>
          obtain ⟨member, same, -⟩ := findSent_some matched
          split
          · next d sent => exact if_neg (Nat.not_le.mpr (early x d member same sent))
          · rfl
        · rfl
      simp only [exec, execTransactionDeadline, runs, if_true]
      rw [now, none_]

end Sys2Proof.Machine

/-! PROOFS. The frames received that stand in a port's queues: no move adds one to a port its command forwards nothing to
(R11, R12). -/

namespace Sys2Proof.Machine

/-! ### The frames received in a port's queues -/

/-- The octets of the frames received that wait in a queue or are in transmission from it. -/
def receivedOctets (q : List QueuedFrame) : List (List Octet) :=
  (q.filter fun f => decide (f.origin = .forwarded)).map (·.octets)

@[simp] theorem receivedOctets_nil : receivedOctets [] = [] := rfl

@[simp] theorem receivedOctets_append (a b : List QueuedFrame) :
    receivedOctets (a ++ b) = receivedOctets a ++ receivedOctets b := by
  simp [receivedOctets]

theorem receivedOctets_sublist {a b : List QueuedFrame} (h : a.Sublist b) : (receivedOctets a).Sublist (receivedOctets b) :=
  (h.filter _).map _

@[simp] theorem receivedOctets_startHead (q : List QueuedFrame) : receivedOctets (startHead q) = receivedOctets q := by
  cases q with
  | nil => rfl
  | cons f rest => cases origin : f.origin <;> simp [receivedOctets, startHead, origin]

@[simp] theorem receivedOctets_cons_part {f : QueuedFrame} (part : f.origin = .part) (q : List QueuedFrame) :
    receivedOctets (f :: q) = receivedOctets q := by
  simp [receivedOctets, part]

/-- The octets of the frames received in both queues of the port. -/
def PortState.forwarded (ps : PortState) : List (List Octet) := receivedOctets ps.allFrames

theorem select_forwarded (share : Nat) (ps : PortState) : (ps.select share).forwarded = ps.forwarded := by
  rcases select_cases share ps with ⟨same, -⟩ | ⟨-, -, -, same⟩ | ⟨-, -, -, n, -, same⟩ <;> rw [same] <;>
    simp [PortState.forwarded, PortState.allFrames]

theorem push_forwarded {f : QueuedFrame} (part : f.origin = .part) (k : QueueKind) (ps : PortState) :
    (ps.push k f).forwarded = ps.forwarded := by
  cases k <;> simp [PortState.forwarded, PortState.allFrames, PortState.push, part]

theorem handOver_forwarded {f : QueuedFrame} (part : f.origin = .part) (now share : Nat) (k : QueueKind) (ps : PortState) :
    (ps.handOver now share k f).forwarded = ps.forwarded := by
  have pushed := push_forwarded part k ps
  unfold PortState.handOver
  split
  · rcases enter_cases now share k f ps with ⟨alone, same⟩ | ⟨-, same⟩ <;> rw [same]
    · exact (select_forwarded share (ps.push k f)).trans pushed
    · exact pushed
  · rw [countDrop_eq]
    rfl

theorem complete_forwarded {ps after : PortState} {f : QueuedFrame} (sent : ps.complete = some (f, after)) :
    after.forwarded.Sublist ps.forwarded := by
  obtain ⟨-, -, -, -, queues⟩ := complete_cases sent
  refine receivedOctets_sublist ?_
  unfold PortState.allFrames
  rcases queues with ⟨express, ordinary⟩ | ⟨ordinary, express⟩
  · rw [express, ordinary]
    exact (List.sublist_cons_self _ _).append_right _
  · rw [express, ordinary]
    exact (List.sublist_cons_self _ _).append_left _

/-! ### The moves -/

/-- The port's queues hold no frame received but those of the list, in its order. -/
def HoldsAtMost (old : List (List Octet)) (ps : PortState) : Prop := ps.forwarded.Sublist old

theorem holdsAtMost_keeps (old : List (List Octet)) : PartFramesKeep (HoldsAtMost old) := by
  intro now share f ps _ _ part h
  unfold HoldsAtMost
  rw [handOver_forwarded part]
  exact h

section
variable {c : Instr} {s u : State} {p : Port} {old : List (List Octet)}

theorem TableMove.holdsAtMost (m : TableMove c s u) (quiet : ¬ forwardsTo c p) (h : HoldsAtMost old (s.port p)) :
    HoldsAtMost old (u.port p) := by
  cases m with
  | hands p' k f running unmarked waiting origin =>
    rw [handOver_port]
    split
    · next same =>
      subst same
      cases from_ : f.origin with
      | forwarded => exact absurd (origin from_) quiet
      | part =>
        unfold HoldsAtMost
        rw [handOver_forwarded from_]
        exact h
    · exact h
  | admits t listed octets arrival =>
    rw [admitted_port, handOver_port, if_neg (fun same : p = .L => quiet (same ▸ arrival))]
    exact h
  | ends t o => rw [ends_port]; exact h
  | sends p' f after running sent =>
    rw [sends_port]
    split
    · next same =>
      subst same
      unfold HoldsAtMost
      rw [select_forwarded]
      exact (complete_forwarded sent).trans h
    · exact h
  | losesLink p' =>
    rw [State.linkLost, setPort_port_cases]
    split
    · exact List.nil_sublist _
    · exact h
  | phy p' => cases p' <;> cases p <;> exact h
  | linkUp p' => cases p' <;> cases p <;> exact h
  | image => cases p <;> exact h

theorem Move.holdsAtMost (m : Move c s u) (quiet : ¬ forwardsTo c p) (h : HoldsAtMost old (s.port p)) :
    HoldsAtMost old (u.port p) := by
  cases m
  case quiet q => rw [q.port p]; exact h
  case tables t => exact t.holdsAtMost quiet h
  case raised r _ => exact takeRaised_port r (fun now => holdsAtMost_keeps old now _) h
  case warmStarts | resets | coldStarts | losesPower => cases p <;> exact List.nil_sublist _
  all_goals cases p <;> exact h

theorem Moves.forwarded (moves : Moves c s u) (quiet : ¬ forwardsTo c p) : (u.port p).forwarded.Sublist (s.port p).forwarded :=
  moves.keep (P := fun x => HoldsAtMost (s.port p).forwarded (x.port p)) (fun _ _ m => m.holdsAtMost quiet) (List.Sublist.refl _)

end

/-! ### Arrivals -/

/-- What an arriving frame addressed to the part can be. -/
theorem classifyArrival_own (st : Settings) (port : Port) (f : List Octet) :
    classifyArrival st (frameDestination f) port f ∈
      [Arrival.fcsError, .lengthError, .flowControl, .management, .stray] := by
  unfold classifyArrival classifyAccepted
  split_ifs <;> simp_all

/-- The arrival of a frame addressed to the part moves it as a request of the frame's octets would. -/
theorem execFrameArrival_own_moves (t : Nat) (p : Port) (whole : Bool) {f : List Octet} {s : State}
    (own : frameDestination f = s.identity.address) :
    MovesTo (.unknownRequest (octetAt (payload f) 0) (octetAt (payload f) 1) (requestOf t p f)) s
      (exec (.frameArrival t p whole f) s) := by
  have clocked := clock_moves (c := .unknownRequest (octetAt (payload f) 0) (octetAt (payload f) 1) (requestOf t p f)) t s
  have kinds := classifyArrival_own (s.clock t).settings p f
  rw [own, ← clock_identity t s] at kinds
  change MovesTo _ s (execFrameArrival t p whole f s)
  unfold execFrameArrival
  dsimp only
  split
  · generalize classifyArrival _ _ p f = a at kinds
    simp only [List.mem_cons, List.not_mem_nil, or_false] at kinds
    rcases kinds with rfl | rfl | rfl | rfl | rfl
    · exact movesTo_next (clocked.tail (.quiet (countPort_quiet p _).1))
    · exact movesTo_next (clocked.tail (.quiet (countPort_quiet p _).2.1))
    · exact movesTo_next clocked
    · refine movesTo_next (clocked.trans (takeManagement_moves _ _ _ _ fun k version kind => ?_))
      simp [mayCarry, version, kind]
    · exact movesTo_next (clocked.tail (.quiet (countStray_quiet p _)))
  · exact movesTo_next clocked

theorem not_forwardsTo_arrivalPort (t : Nat) (p : Port) (whole : Bool) (f : List Octet) :
    ¬ forwardsTo (.frameArrival t p whole f) p := by
  rintro ⟨t', whole', f', same⟩
  cases p <;> cases same

theorem not_forwardsTo_unknownRequest (version kind : Octet) (q : Request) (p : Port) :
    ¬ forwardsTo (.unknownRequest version kind q) p := by
  rintro ⟨t', whole', f', same⟩
  cases same

/-- Settles O36: a frame received is handed over only by an arrival on the other port, and an arrival addressed to the part
moves the part as a request does, which hands over frames of the part's own. -/
theorem noFrameGoesBackOut : Obligations.NoFrameGoesBackOut := by
  unfold Obligations.NoFrameGoesBackOut
  intro t p whole f s s' taken
  refine ⟨(exec_moves taken).forwarded (not_forwardsTo_arrivalPort t p whole f), fun own => ?_⟩
  obtain ⟨u, result, moves⟩ := execFrameArrival_own_moves t p whole own
  obtain rfl : s' = u := Host.Outcome.next.inj (taken.symm.trans result)
  exact moves.forwarded (not_forwardsTo_unknownRequest _ _ _ _)

end Sys2Proof.Machine
